-- ==== Sys2Proof/Word.lean ====
section
/-! DEFINITION. The two word sizes of the machine (spec/00_scope.md R8, R9: `u8` and `u16`). -/

namespace Sys2Proof

/-- A `u8` (R8). -/
abbrev Byte := BitVec 8

/-- A `u16` (R8). -/
abbrev Word := BitVec 16

end Sys2Proof
end

