-- ==== Sys2Proof/Config.lean ====
section
/-! DEFINITION. The implementation parameters of spec/00_scope.md R7 (as plain data, with the spec's defaults)
and the OPEN parameters, which have no default and are uninterpreted constants.
A state carries its `Params` and no step changes them, so a statement over every state holds for every
value of every parameter. -/

namespace Sys2Proof.Config

/-- One RGBA pixel of the framebuffer (R6, R18 of 92_eei_decisions.md). -/
structure Rgba where
  r : Byte
  g : Byte
  b : Byte
  a : Byte
  deriving DecidableEq, Repr

/-- P_SHADES: the RGBA value of each shade 0..3 (R7, R37). -/
structure Shades where
  s0 : Rgba
  s1 : Rgba
  s2 : Rgba
  s3 : Rgba
  deriving DecidableEq, Repr

/-- The t-cycle cost of an opcode: `taken` for every unconditional row, `taken`/`notTaken` for a conditional
transfer (R136, R420). -/
structure Cost where
  taken : Nat
  notTaken : Nat
  deriving DecidableEq, Repr

/-- P_ACC_ROTATE_Z: the Z flag of RLCA, RRCA, RLA and RRA (R7, 43_rotate_shift.md). -/
inductive AccRotateZ
  | cleared
  | fromResult
  deriving DecidableEq, Repr

/-- P_STOP_LEN: the bytes STOP advances PC by (R7, R292). -/
inductive StopLen
  | one
  | two
  deriving DecidableEq, Repr

/-- P_BOOT_MODE (R7, R400). -/
inductive BootMode
  | postBoot
  | bootRom
  deriving DecidableEq, Repr

/-- P_MBC1_MODE_WRITE (R7, R93). -/
inductive Mbc1ModeWrite
  | bit0
  | toggle
  deriving DecidableEq, Repr

/-- P_RESET_IO: the reset values that R50 takes from a parameter record. -/
structure ResetIo where
  ime : Bool
  ifl : BitVec 5
  ie : BitVec 5
  lcdc : Byte
  statw : BitVec 4
  scy : Byte
  scx : Byte
  lyc : Byte
  wy : Byte
  wx : Byte
  bgp : Byte
  obp0 : Byte
  obp1 : Byte
  dma : Byte
  div : Byte
  tima : Byte
  tma : Byte
  tac : BitVec 3
  jsel : BitVec 2
  sb : Byte
  sc : Byte
  deriving DecidableEq, Repr

/-- The named parameters of R7 that have a default. `cycles` lists the opcodes whose P_CYCLES entry differs from
the default table of Machine/Cycles.lean (key: the opcode, 0x100 + b1 for the row `0xCB b1`). -/
structure Params where
  timerTick : Nat
  cycles : List (Nat × Cost)
  accRotateZ : AccRotateZ
  stopLen : StopLen
  shades : Shades
  resetIo : ResetIo
  bootMode : BootMode
  mbc1ModeWrite : Mbc1ModeWrite
  deriving DecidableEq, Repr

/-- The default P_SHADES (R7). -/
def Shades.default : Shades :=
  { s0 := ⟨255, 255, 255, 255⟩, s1 := ⟨192, 192, 192, 255⟩, s2 := ⟨96, 96, 96, 255⟩, s3 := ⟨0, 0, 0, 255⟩ }

/-- The default P_RESET_IO (R50, D39). -/
def ResetIo.default : ResetIo :=
  { ime := false, ifl := 0x01, ie := 0, lcdc := 0x91, statw := 0, scy := 0, scx := 0, lyc := 0, wy := 0, wx := 0,
    bgp := 0xFC, obp0 := 0xFF, obp1 := 0xFF, dma := 0xFF, div := 0xAB, tima := 0, tma := 0, tac := 0,
    jsel := 0, sb := 0, sc := 0x7E }

/-- The defaults of R7. -/
def Params.default : Params :=
  { timerTick := 16, cycles := [], accRotateZ := .cleared, stopLen := .two, shades := .default,
    resetIo := .default, bootMode := .postBoot, mbc1ModeWrite := .bit0 }

/-- P_JOYP_NONE (OPEN, R7, R370): what FF00 reads with neither row selected. A free value: no body, assumption 5. -/
opaque joypNone : Byte

/-- P_JOYP_BOTH (OPEN, R7, R370): what FF00 reads with both rows selected. A free value: no body, assumption 5. -/
opaque joypBoth : Byte

/-- P_EXTRAM, the read function (OPEN, R7, R88): the byte read at an external-RAM address of a type 1-3 cartridge, from
(a, ram_enable, ram_bank, bank_mode, external-RAM contents). A free value: no body, assumption 4. -/
opaque extRead : Word → Bool → BitVec 2 → Bool → List (Nat × Byte) → Byte

/-- P_EXTRAM, the write function (OPEN, R7, R88): the external-RAM contents after a write of the given byte to an
external-RAM address of a type 1-3 cartridge, byte by byte (the last argument is the offset 0..8191).
A free value: no body, assumption 4. -/
opaque extWrite : Word → Byte → Bool → BitVec 2 → Bool → List (Nat × Byte) → Nat → Byte

/-- The draws of a reset in BootRom mode (R50, U8): the n-th value drawn. A free value: no body, assumption 8. -/
opaque bootDraw : Nat → Word

end Sys2Proof.Config
end

