-- ==== Sys2Proof/Machine/State.lean ====
section
/-! DEFINITION. The machine's state (spec/10_state.md R20-R50), as plain data: the processor, the interrupt registers, the
timer, the video unit, the memories behind the bus, the cartridge port, the joypad and serial ports, and the System's bookkeeping.
Every memory and buffer is a list of (key, value) pairs in the canonical form of Machine/Memory.lean. -/

namespace Sys2Proof.Machine

/-- A byte memory: the listed bytes; what an unlisted index reads as is `Memory.fill` (Machine/Memory.lean). -/
abbrev Memory := List Host.Cell

/-- A framebuffer: the listed pixels, keyed by 160·row + column; an unlisted pixel is P_SHADES[0] (R50). -/
abbrev Frame := List (Nat × Config.Rgba)

/-- The processor's registers and control state (R20-R25, R27, R29, R32, R33). -/
structure Cpu where
  a : Byte
  f : Byte
  b : Byte
  c : Byte
  d : Byte
  e : Byte
  h : Byte
  l : Byte
  sp : Word
  pc : Word
  ime : Bool
  halted : Bool
  stopped : Bool
  deriving DecidableEq, Repr

/-- The interrupt registers: IF (0xFF0F, R30) and IE (0xFFFF, R31), 5 bits each. -/
structure Irq where
  ifl : BitVec 5
  ie : BitVec 5
  deriving DecidableEq, Repr

/-- The interval timer (R39) and its hidden counters (R40). -/
structure Timer where
  div : Byte
  tima : Byte
  tma : Byte
  tac : BitVec 3
  tsub : Nat
  dsub : Nat
  tacc : Nat
  deriving DecidableEq, Repr

/-- The video modes (R41). -/
inductive VideoMode
  | hblank | vblank | oamScan | drawing
  deriving DecidableEq, Repr

/-- The video unit's registers (R34-R37) and hidden state (R41). `statw` is STAT's stored part (bits 6:3), `bgidx` the
background index buffer by column. The tile cache is a function of VRAM and is not stored (R47, assumption 7). -/
structure Video where
  lcdc : Byte
  statw : BitVec 4
  coinc : Bool
  scy : Byte
  scx : Byte
  ly : Byte
  lyc : Byte
  bgp : Byte
  obp0 : Byte
  obp1 : Byte
  wy : Byte
  wx : Byte
  mode : VideoMode
  vclock : Nat
  bgidx : List (Nat × BitVec 2)
  fbWork : Frame
  fbOut : Frame
  deriving DecidableEq, Repr

/-- The memories behind the bus (R42-R44), the boot overlay and its flag (R42), and the DMA register (R38). -/
structure Bus where
  vram : Memory
  wram : Memory
  oam : Memory
  hram : Memory
  extram : Memory
  boot : Memory
  overlay : Bool
  dma : Byte
  deriving DecidableEq, Repr

/-- A cartridge image (R45, R85): its length and its bytes. -/
structure Image where
  size : Nat
  bytes : Memory
  deriving DecidableEq, Repr

/-- The cartridge port (R45). `image` is `none` before the first `load` (R402). -/
structure Cart where
  image : Option Image
  romBank : BitVec 7
  ramBank : BitVec 2
  ramEnable : Bool
  bankMode : Bool
  deriving DecidableEq, Repr

/-- The eight buttons, `true` when pressed (R46). -/
structure Buttons where
  right : Bool
  left : Bool
  up : Bool
  down : Bool
  a : Bool
  b : Bool
  select : Bool
  start : Bool
  deriving DecidableEq, Repr

/-- The joypad port (R46): the two select bits and the buttons. -/
structure Joypad where
  jsel : BitVec 2
  buttons : Buttons
  deriving DecidableEq, Repr

/-- The serial port (R46, R375) and the host's log of sent bytes (R48), oldest first. -/
structure Serial where
  sb : Byte
  sc : Byte
  log : List Byte
  deriving DecidableEq, Repr

/-- The recorded FatalDecodeError (R48, R310): the opcode byte and its address. -/
structure DecodeFault where
  opcode : Byte
  pc : Word
  deriving DecidableEq, Repr

/-- The System's bookkeeping (R48). `cycles` is the t-cycle cost the last instruction reported (R13), `stepT` the cost of the
last completed step (R380). `draws` is the model's own field: how many free values resets have drawn (assumption 8). -/
structure Sys where
  fault : Option DecodeFault
  frameT : Nat
  dispatchT : Nat
  cycles : Nat
  stepT : Nat
  breakpoints : List Word
  draws : Nat
  deriving DecidableEq, Repr

/-- The whole machine. `params` is not state of the hardware: it is the value of the parameters of R7, which no step changes. -/
structure State where
  cpu : Cpu
  irq : Irq
  timer : Timer
  video : Video
  bus : Bus
  cart : Cart
  joypad : Joypad
  serial : Serial
  sys : Sys
  params : Config.Params
  deriving DecidableEq, Repr

/-- Why a step stops the machine. -/
inductive Fault
  /-- Raised by `step` when the machine already holds a FatalDecodeError: "While fault ≠ none, the System performs no step"
  (R310, R386). Safe: the spec's machine makes no step here either. -/
  | fatalDecodeError (opcode : Byte) (pc : Word)
  /-- Raised by `step` while `stopped` is set: the System "performs no step" until the host's resume() or reset() (R384).
  Safe: the spec's machine makes no step here either. -/
  | stopped
  deriving DecidableEq, Repr

/-- Why a step is refused. -/
inductive Refusal
  /-- Raised by an arm of `exec` whose instruction has no meaning yet (none is left). Safe: nothing can be proved of it. -/
  | notModelled (mnemonic : String)
  /-- Raised by `step` with no cartridge loaded: the spec's own `refuse NoCartridge` (R402). Safe. -/
  | noCartridge
  deriving DecidableEq, Repr

/-- The machine at creation, right after `reset()` with the default parameters (R50, R400, R402): no cartridge, no byte of any
memory listed. The values that the spec leaves as a draw at creation (the RAMs, the boot buffer, bgidx) are assumption 3. That the
serial log and the set of breakpoints are empty at creation is the model's choice (DESIGN CHOICE, assumption 27): R50 and R402 give
them no first value. -/
def State.reset : State where
  cpu := { a := 0x01, f := 0x90, b := 0x00, c := 0x13, d := 0x00, e := 0xD8, h := 0x01, l := 0x4D,
           sp := 0xFFFE, pc := 0x0100, ime := false, halted := false, stopped := false }
  irq := { ifl := 0x01, ie := 0x00 }
  timer := { div := 0xAB, tima := 0x00, tma := 0x00, tac := 0, tsub := 0, dsub := 0, tacc := 0 }
  video := { lcdc := 0x91, statw := 0, coinc := true, scy := 0, scx := 0, ly := 0, lyc := 0, bgp := 0xFC,
             obp0 := 0xFF, obp1 := 0xFF, wy := 0, wx := 0, mode := .oamScan, vclock := 0, bgidx := [], fbWork := [], fbOut := [] }
  bus := { vram := [], wram := [], oam := [], hram := [], extram := [], boot := [], overlay := false, dma := 0xFF }
  cart := { image := none, romBank := 1, ramBank := 0, ramEnable := false, bankMode := false }
  joypad := { jsel := 0, buttons := ⟨false, false, false, false, false, false, false, false⟩ }
  serial := { sb := 0x00, sc := 0x7E, log := [] }
  sys := { fault := none, frameT := 0, dispatchT := 0, cycles := 0, stepT := 0, breakpoints := [], draws := 0 }
  params := .default

end Sys2Proof.Machine
end

