-- ==== Sys2Proof/Machine/Memory.lean ====
section
/-! DEFINITION. Sparse maps from numbers to values, the form of every memory and buffer of the state: a list of (key, value)
pairs with strictly rising keys in which no entry holds the default value, so that equal contents are equal lists. -/

namespace Sys2Proof.Machine

namespace Sparse

variable {α : Type}

/-- The value at key `k`; `d` where none is listed. -/
def get (d : α) : List (Nat × α) → Nat → α
  | [], _ => d
  | (j, v) :: m, k => if k = j then v else get d m k

/-- The map without the entry of key `k`. -/
def erase : List (Nat × α) → Nat → List (Nat × α)
  | [], _ => []
  | (j, v) :: m, k => if k = j then erase m k else (j, v) :: erase m k

/-- The map with an entry for `k` put in its place by key. -/
def insert : List (Nat × α) → Nat → α → List (Nat × α)
  | [], k, v => [(k, v)]
  | (j, w) :: m, k, v => if k < j then (k, v) :: (j, w) :: m else (j, w) :: insert m k v

/-- The map with `v` at key `k`; the default value is stored by listing nothing. -/
def set [DecidableEq α] (d : α) (m : List (Nat × α)) (k : Nat) (v : α) : List (Nat × α) :=
  if v = d then erase m k else insert (erase m k) k v

/-- The map of a function on the keys `base`, …, `base + n - 1`. -/
def ofFn [DecidableEq α] (d : α) (f : Nat → α) : Nat → Nat → List (Nat × α)
  | 0, _ => []
  | n + 1, base => if f base = d then ofFn d f n (base + 1) else (base, f base) :: ofFn d f n (base + 1)

/-- Every key is below `n`. -/
def keysBelow (n : Nat) (m : List (Nat × α)) : Bool := m.all (fun c => decide (c.1 < n))

/-- Every key is above `k`. -/
def keysAbove (k : Nat) (m : List (Nat × α)) : Bool := m.all (fun c => decide (k < c.1))

/-- The canonical form: keys strictly rising, no entry equal to the default. -/
def wf [DecidableEq α] (d : α) : List (Nat × α) → Bool
  | [] => true
  | (k, v) :: m => decide (v ≠ d) && keysAbove k m && wf d m

end Sparse

namespace Memory

/-- What an unlisted byte reads as. The spec leaves the RAM contents at creation to P_INIT_MEM, a draw (R50, R402, D40): 0x00 is the
model's choice for the state `State.reset` only, since a state can list any other contents (assumption 3). For a cartridge image
and the boot buffer it is only how a byte 0x00 is written down (assumption 6). -/
def fill : Byte := 0x00

/-- The byte at an index. -/
def get (m : Memory) (i : Nat) : Byte := Sparse.get fill m i

/-- The memory with a byte stored at an index. -/
def set (m : Memory) (i : Nat) (v : Byte) : Memory := Sparse.set fill m i v

/-- The memory of `n` bytes that holds `f i` at index `i`. -/
def ofFn (n : Nat) (f : Nat → Byte) : Memory := Sparse.ofFn fill f n 0

/-- The canonical form of a memory: indices strictly rising, and no entry equal to what an unlisted index reads as. -/
def wf (m : Memory) : Bool := Sparse.wf fill m

end Memory

end Sys2Proof.Machine
end

