-- ==== Sys2Proof/Machine/Cycles.lean ====
section
/-! DEFINITION. P_CYCLES (spec/70_reset_and_hazards.md R420): the default t-cycle costs are the `cycles` column of
spec/opcode_table.json, by the rows of the primary map; a state's parameters may override any entry. -/

namespace Sys2Proof.Machine

/-- The cost of an unconditional row. -/
def fixedCost (t : Nat) : Config.Cost := ⟨t, t⟩

/-- The cost of a conditional transfer. -/
def condCost (taken notTaken : Nat) : Config.Cost := ⟨taken, notTaken⟩

/-- The costs of row 0 of the primary map. -/
def costRow0 : List Config.Cost :=
  [fixedCost 4, fixedCost 12, fixedCost 8, fixedCost 8,
   fixedCost 4, fixedCost 4, fixedCost 8, fixedCost 4,
   fixedCost 20, fixedCost 8, fixedCost 8, fixedCost 8,
   fixedCost 4, fixedCost 4, fixedCost 8, fixedCost 4]

/-- The costs of row 1 of the primary map. -/
def costRow1 : List Config.Cost :=
  [fixedCost 4, fixedCost 12, fixedCost 8, fixedCost 8,
   fixedCost 4, fixedCost 4, fixedCost 8, fixedCost 4,
   fixedCost 12, fixedCost 8, fixedCost 8, fixedCost 8,
   fixedCost 4, fixedCost 4, fixedCost 8, fixedCost 4]

/-- The costs of row 2 of the primary map. -/
def costRow2 : List Config.Cost :=
  [condCost 12 8, fixedCost 12, fixedCost 8, fixedCost 8,
   fixedCost 4, fixedCost 4, fixedCost 8, fixedCost 4,
   condCost 12 8, fixedCost 8, fixedCost 8, fixedCost 8,
   fixedCost 4, fixedCost 4, fixedCost 8, fixedCost 4]

/-- The costs of row 3 of the primary map. -/
def costRow3 : List Config.Cost :=
  [condCost 12 8, fixedCost 12, fixedCost 8, fixedCost 8,
   fixedCost 12, fixedCost 12, fixedCost 12, fixedCost 4,
   condCost 12 8, fixedCost 8, fixedCost 8, fixedCost 8,
   fixedCost 4, fixedCost 4, fixedCost 8, fixedCost 4]

/-- The costs of row 4 of the primary map. -/
def costRow4 : List Config.Cost :=
  [fixedCost 4, fixedCost 4, fixedCost 4, fixedCost 4,
   fixedCost 4, fixedCost 4, fixedCost 8, fixedCost 4,
   fixedCost 4, fixedCost 4, fixedCost 4, fixedCost 4,
   fixedCost 4, fixedCost 4, fixedCost 8, fixedCost 4]

/-- The costs of row 5 of the primary map. -/
def costRow5 : List Config.Cost :=
  [fixedCost 4, fixedCost 4, fixedCost 4, fixedCost 4,
   fixedCost 4, fixedCost 4, fixedCost 8, fixedCost 4,
   fixedCost 4, fixedCost 4, fixedCost 4, fixedCost 4,
   fixedCost 4, fixedCost 4, fixedCost 8, fixedCost 4]

/-- The costs of row 6 of the primary map. -/
def costRow6 : List Config.Cost :=
  [fixedCost 4, fixedCost 4, fixedCost 4, fixedCost 4,
   fixedCost 4, fixedCost 4, fixedCost 8, fixedCost 4,
   fixedCost 4, fixedCost 4, fixedCost 4, fixedCost 4,
   fixedCost 4, fixedCost 4, fixedCost 8, fixedCost 4]

/-- The costs of row 7 of the primary map. -/
def costRow7 : List Config.Cost :=
  [fixedCost 8, fixedCost 8, fixedCost 8, fixedCost 8,
   fixedCost 8, fixedCost 8, fixedCost 4, fixedCost 8,
   fixedCost 4, fixedCost 4, fixedCost 4, fixedCost 4,
   fixedCost 4, fixedCost 4, fixedCost 8, fixedCost 4]

/-- The costs of row 8 of the primary map. -/
def costRow8 : List Config.Cost :=
  [fixedCost 4, fixedCost 4, fixedCost 4, fixedCost 4,
   fixedCost 4, fixedCost 4, fixedCost 8, fixedCost 4,
   fixedCost 4, fixedCost 4, fixedCost 4, fixedCost 4,
   fixedCost 4, fixedCost 4, fixedCost 8, fixedCost 4]

/-- The costs of row 9 of the primary map. -/
def costRow9 : List Config.Cost :=
  [fixedCost 4, fixedCost 4, fixedCost 4, fixedCost 4,
   fixedCost 4, fixedCost 4, fixedCost 8, fixedCost 4,
   fixedCost 4, fixedCost 4, fixedCost 4, fixedCost 4,
   fixedCost 4, fixedCost 4, fixedCost 8, fixedCost 4]

/-- The costs of row A of the primary map. -/
def costRowA : List Config.Cost :=
  [fixedCost 4, fixedCost 4, fixedCost 4, fixedCost 4,
   fixedCost 4, fixedCost 4, fixedCost 8, fixedCost 4,
   fixedCost 4, fixedCost 4, fixedCost 4, fixedCost 4,
   fixedCost 4, fixedCost 4, fixedCost 8, fixedCost 4]

/-- The costs of row B of the primary map. -/
def costRowB : List Config.Cost :=
  [fixedCost 4, fixedCost 4, fixedCost 4, fixedCost 4,
   fixedCost 4, fixedCost 4, fixedCost 8, fixedCost 4,
   fixedCost 4, fixedCost 4, fixedCost 4, fixedCost 4,
   fixedCost 4, fixedCost 4, fixedCost 8, fixedCost 4]

/-- The costs of row C of the primary map. -/
def costRowC : List Config.Cost :=
  [condCost 20 8, fixedCost 12, condCost 16 12, fixedCost 16,
   condCost 24 12, fixedCost 16, fixedCost 8, fixedCost 16,
   condCost 20 8, fixedCost 16, condCost 16 12, fixedCost 0,
   condCost 24 12, fixedCost 24, fixedCost 8, fixedCost 16]

/-- The costs of row D of the primary map. -/
def costRowD : List Config.Cost :=
  [condCost 20 8, fixedCost 12, condCost 16 12, fixedCost 0,
   condCost 24 12, fixedCost 16, fixedCost 8, fixedCost 16,
   condCost 20 8, fixedCost 16, condCost 16 12, fixedCost 0,
   condCost 24 12, fixedCost 0, fixedCost 8, fixedCost 16]

/-- The costs of row E of the primary map. -/
def costRowE : List Config.Cost :=
  [fixedCost 12, fixedCost 12, fixedCost 8, fixedCost 0,
   fixedCost 0, fixedCost 16, fixedCost 8, fixedCost 16,
   fixedCost 16, fixedCost 4, fixedCost 16, fixedCost 0,
   fixedCost 0, fixedCost 0, fixedCost 8, fixedCost 16]

/-- The costs of row F of the primary map. -/
def costRowF : List Config.Cost :=
  [fixedCost 12, fixedCost 12, fixedCost 8, fixedCost 4,
   fixedCost 0, fixedCost 16, fixedCost 8, fixedCost 16,
   fixedCost 12, fixedCost 8, fixedCost 16, fixedCost 4,
   fixedCost 0, fixedCost 0, fixedCost 8, fixedCost 16]

/-- The costs of the primary map, by opcode byte. -/
def primaryCosts : List Config.Cost :=
  costRow0 ++ costRow1 ++ costRow2 ++ costRow3 ++ costRow4 ++ costRow5 ++ costRow6 ++ costRow7 ++ costRow8 ++ costRow9 ++ costRowA ++ costRowB ++ costRowC ++ costRowD ++ costRowE ++ costRowF

/-- The cost of the row `0xCB b1`, both bytes together (R295): 8 t on a register; on (HL), 12 t for BIT and 16 t otherwise (R230, R260-R262). -/
def extendedCost (b1 : Nat) : Config.Cost :=
  if b1 % 8 ≠ 6 then fixedCost 8
  else if b1 / 64 = 1 then fixedCost 12
  else fixedCost 16

/-- The default cost of an opcode: the byte itself, or 0x100 + b1 for `0xCB b1`. -/
def defaultCost (op : Nat) : Config.Cost :=
  if op < 0x100 then primaryCosts.getD op (fixedCost 0) else extendedCost (op - 0x100)

/-- P_CYCLES of an opcode: the parameter's entry where it has one, otherwise the default. -/
def opcodeCost (p : Config.Params) (op : Nat) : Config.Cost := Sparse.get (defaultCost op) p.cycles op

end Sys2Proof.Machine
end

