-- ==== Sys2Proof/Machine/Bus.lean ====
section
/-! DEFINITION. The memory bus (spec/20_memory.md R60-R104): the address decoder, the cartridge port, the I/O registers with
their side effects, and OAM DMA. `memRead` and `memWrite` are MemRead(a, 1) and MemWrite(a, 1, v) of spec/00_scope.md R11. -/

namespace Sys2Proof.Machine

/-- Where the decoder sends an address (R64), with the offset inside the storage; the rows are in the table's order. -/
inductive Region
  | boot (o : Nat)
  | cart (o : Nat)
  | vram (o : Nat)
  | ext (o : Nat)
  | wram (o : Nat)
  | oam (o : Nat)
  | unmapped
  | io (o : Nat)
  | hram (o : Nat)
  | ie
  deriving DecidableEq, Repr

/-- The address decoder: the first matching row of R64's table. Rows 5 and 6 share WRAM (the echo). -/
def busDecode (overlay : Bool) (a : Word) : Region :=
  let n := a.toNat
  if n < 0x100 ∧ overlay = true then .boot n
  else if n < 0x8000 then .cart n
  else if n < 0xA000 then .vram (n - 0x8000)
  else if n < 0xC000 then .ext (n - 0xA000)
  else if n < 0xE000 then .wram (n - 0xC000)
  else if n < 0xFE00 then .wram (n - 0xE000)
  else if n < 0xFEA0 then .oam (n - 0xFE00)
  else if n < 0xFF00 then .unmapped
  else if n < 0xFF80 then .io (n - 0xFF00)
  else if n < 0xFFFF then .hram (n - 0xFF80)
  else .ie

/-! ## The cartridge port -/

/-- What a cartridge read gives when no image is loaded: the model's choice (DESIGN CHOICE, assumption 9), since the spec gives an empty
slot no behaviour. No step reaches it, since a step with no cartridge is refused (R402). -/
def openBus : Byte := 0xFF

/-- The controller type, `cart[0x147]` (R45): 0 is no controller. -/
def Image.controllerType (im : Image) : Byte := Memory.get im.bytes 0x147

/-- Whether the bank-switching controller (types 1-3) is present (R45, R85). With no image loaded it is not: that an empty slot then
discards writes below 0x8000 and leaves 0xA000-0xBFFF to the flat external RAM, as type 0 does (R87, R89), is the model's choice
(DESIGN CHOICE, assumption 9), since the spec gives an empty slot no behaviour (R402). -/
def Cart.banked (c : Cart) : Bool :=
  match c.image with
  | none => false
  | some im => im.controllerType != 0

/-- The index into the image that a ROM-space offset reads (R86): the upper window goes through the selected bank, taken modulo the
number of banks. -/
def Cart.romIndex (c : Cart) (im : Image) (o : Nat) : Nat :=
  if im.controllerType = 0 ∨ o < 0x4000 then o
  else (c.romBank.toNat % (im.size / 0x4000)) * 0x4000 + (o - 0x4000)

/-- CartRead (R86). -/
def cartRead (c : Cart) (o : Nat) : Byte :=
  match c.image with
  | none => openBus
  | some im => Memory.get im.bytes (c.romIndex im o)

/-- The skip rule of R91: a bank number that is a multiple of 0x20 is incremented. -/
def skipBank (b : BitVec 7) : BitVec 7 := if b.toNat % 0x20 = 0 then b + 1 else b

/-- CartWrite (R89-R93): the controller registers of types 1-3; discarded with no controller. -/
def cartWrite (mode : Config.Mbc1ModeWrite) (c : Cart) (o : Nat) (v : Byte) : Cart :=
  if c.banked = false then c
  else if o < 0x2000 then { c with ramEnable := decide (v.toNat % 0x10 = 0xA) }
  else if o < 0x4000 then { c with romBank := skipBank (c.romBank &&& 0x60 ||| (v &&& 0x1F).setWidth 7) }
  else if o < 0x6000 then
    if c.bankMode then { c with ramBank := v.setWidth 2 }
    else { c with romBank := skipBank (c.romBank &&& 0x1F ||| (v &&& 0x03).setWidth 7 <<< 5) }
  else
    match mode with
    | .bit0 => { c with bankMode := v.getLsbD 0 }
    | .toggle => { c with bankMode := !c.bankMode }

/-- ExtRead: the flat 8 KiB of type 0 (R87), or P_EXTRAM's read function for types 1-3 (R88). -/
def extRead (s : State) (a : Word) (o : Nat) : Byte :=
  if s.cart.banked then Config.extRead a s.cart.ramEnable s.cart.ramBank s.cart.bankMode s.bus.extram
  else Memory.get s.bus.extram o

/-- The external RAM after ExtWrite: R87 for type 0, P_EXTRAM's write function for types 1-3 (R88). -/
def extWrite (s : State) (a : Word) (o : Nat) (v : Byte) : Memory :=
  if s.cart.banked then
    Memory.ofFn 8192 (Config.extWrite a v s.cart.ramEnable s.cart.ramBank s.cart.bankMode s.bus.extram)
  else Memory.set s.bus.extram o v

/-! ## The I/O registers -/

/-- A row of four buttons, 0 = pressed, the first in bit 3 (R370). -/
def buttonRow (b3 b2 b1 b0 : Bool) : BitVec 4 :=
  BitVec.ofBool (!b3) ++ BitVec.ofBool (!b2) ++ BitVec.ofBool (!b1) ++ BitVec.ofBool (!b0)

/-- JoypadRead (R370): FF00[4] = 0 selects the directions, FF00[5] = 0 the actions. -/
def joypadRead (j : Joypad) : Byte :=
  let b := j.buttons
  if j.jsel = 0b10 then 0b11#2 ++ j.jsel ++ buttonRow b.down b.up b.left b.right
  else if j.jsel = 0b01 then 0b11#2 ++ j.jsel ++ buttonRow b.start b.select b.b b.a
  else if j.jsel = 0b11 then Config.joypNone
  else Config.joypBoth

/-- The two mode bits of STAT (R35, R357). -/
def VideoMode.bits : VideoMode → BitVec 2
  | .hblank => 0 | .vblank => 1 | .oamScan => 2 | .drawing => 3

/-- STAT as read (R35): bit 7 reads 1, then the stored part, the match bit and the mode. -/
def statRead (v : Video) : Byte := 1#1 ++ v.statw ++ BitVec.ofBool v.coinc ++ v.mode.bits

/-- IORead (R73, R74) at 0xFF00 + o. -/
def ioRead (s : State) (o : Nat) : Byte :=
  match o with
  | 0x00 => joypadRead s.joypad
  | 0x01 => s.serial.sb
  | 0x02 => s.serial.sc
  | 0x04 => s.timer.div
  | 0x05 => s.timer.tima
  | 0x06 => s.timer.tma
  | 0x07 => 0b11111#5 ++ s.timer.tac
  | 0x0F => 0b111#3 ++ s.irq.ifl
  | 0x40 => s.video.lcdc
  | 0x41 => statRead s.video
  | 0x42 => s.video.scy
  | 0x43 => s.video.scx
  | 0x44 => s.video.ly
  | 0x45 => s.video.lyc
  | 0x46 => s.bus.dma
  | 0x47 => s.video.bgp
  | 0x48 => s.video.obp0
  | 0x49 => s.video.obp1
  | 0x4A => s.video.wy
  | 0x4B => s.video.wx
  | _ => 0xFF

/-- MemRead(a, 1) (R63): no side effect (R77), never a fault (R74, R97). -/
def memRead (s : State) (a : Word) : Byte :=
  match busDecode s.bus.overlay a with
  | .boot o => Memory.get s.bus.boot o
  | .cart o => cartRead s.cart o
  | .vram o => Memory.get s.bus.vram o
  | .ext o => extRead s a o
  | .wram o => Memory.get s.bus.wram o
  | .oam o => Memory.get s.bus.oam o
  | .unmapped => 0xFF
  | .io o => ioRead s o
  | .hram o => Memory.get s.bus.hram o
  | .ie => s.irq.ie.setWidth 8

/-- MemRead(a, 2) (R11): the byte at a is the low one (R60). -/
def memRead16 (s : State) (a : Word) : Word := memRead s (a + 1) ++ memRead s a

/-- One byte of the OAM DMA copy (R95), read through the decoder. -/
def dmaByte (src : Byte) (s : State) (i : Nat) : State :=
  { s with bus := { s.bus with oam := Memory.set s.bus.oam i (memRead s ((src ++ 0x00#8) + BitVec.ofNat 16 i)) } }

/-- The write to 0xFF46 (R95): the value is stored, then 160 bytes are copied in order. -/
def dmaWrite (s : State) (v : Byte) : State :=
  (List.range 160).foldl (dmaByte v) { s with bus := { s.bus with dma := v } }

/-- LcdcWrite (R358): the display-enable bit's transitions disable or restart the video unit. An empty frame is all P_SHADES[0]. -/
def lcdcWrite (u : Video) (v : Byte) : Video :=
  let u' := { u with lcdc := v }
  if u.lcdc.getLsbD 7 && !v.getLsbD 7 then
    { u' with mode := .hblank, vclock := 0, ly := 0, fbWork := [], fbOut := [] }
  else if !u.lcdc.getLsbD 7 && v.getLsbD 7 then
    { u' with mode := .oamScan, vclock := 0, ly := 0 }
  else u'

/-- The write to SC (R375): 0x81 appends SB to the host's log; no transfer starts. -/
def serialControlWrite (p : Serial) (v : Byte) : Serial :=
  { p with sc := v, log := if v = 0x81 then p.log ++ [p.sb] else p.log }

/-- IOWrite (R73, R74) at 0xFF00 + o. -/
def ioWrite (s : State) (o : Nat) (v : Byte) : State :=
  match o with
  | 0x00 => { s with joypad := { s.joypad with jsel := v.extractLsb' 4 2 } }
  | 0x01 => { s with serial := { s.serial with sb := v } }
  | 0x02 => { s with serial := serialControlWrite s.serial v }
  | 0x04 => { s with timer := { s.timer with div := 0, dsub := 0 } }
  | 0x05 => { s with timer := { s.timer with tima := v } }
  | 0x06 => { s with timer := { s.timer with tma := v } }
  | 0x07 => { s with timer := { s.timer with tac := v.setWidth 3 } }
  | 0x0F => { s with irq := { s.irq with ifl := v.setWidth 5 } }
  | 0x40 => { s with video := lcdcWrite s.video v }
  | 0x41 => { s with video := { s.video with statw := v.extractLsb' 3 4 } }
  | 0x42 => { s with video := { s.video with scy := v } }
  | 0x43 => { s with video := { s.video with scx := v } }
  | 0x45 => { s with video := { s.video with lyc := v } }
  | 0x46 => dmaWrite s v
  | 0x47 => { s with video := { s.video with bgp := v } }
  | 0x48 => { s with video := { s.video with obp0 := v } }
  | 0x49 => { s with video := { s.video with obp1 := v } }
  | 0x4A => { s with video := { s.video with wy := v } }
  | 0x4B => { s with video := { s.video with wx := v } }
  | 0x50 => { s with bus := { s.bus with overlay := false } }
  | _ => s

/-- MemWrite(a, 1, v) (R64): writes below 0x8000 go to the cartridge port, the overlay included (R65). -/
def memWrite (s : State) (a : Word) (v : Byte) : State :=
  match busDecode s.bus.overlay a with
  | .boot o => { s with cart := cartWrite s.params.mbc1ModeWrite s.cart o v }
  | .cart o => { s with cart := cartWrite s.params.mbc1ModeWrite s.cart o v }
  | .vram o => { s with bus := { s.bus with vram := Memory.set s.bus.vram o v } }
  | .ext o => { s with bus := { s.bus with extram := extWrite s a o v } }
  | .wram o => { s with bus := { s.bus with wram := Memory.set s.bus.wram o v } }
  | .oam o => { s with bus := { s.bus with oam := Memory.set s.bus.oam o v } }
  | .unmapped => s
  | .io o => ioWrite s o v
  | .hram o => { s with bus := { s.bus with hram := Memory.set s.bus.hram o v } }
  | .ie => { s with irq := { s.irq with ie := v.setWidth 5 } }

/-- MemWrite(a, 2, v) (R11): the low byte first, the high byte at a + 1 mod 2^16. -/
def memWrite16 (s : State) (a : Word) (v : Word) : State :=
  memWrite (memWrite s a (v.extractLsb' 0 8)) (a + 1) (v.extractLsb' 8 8)

/-- A byte put into the storage that `memRead` reads at `a`, for placing a program (not an access of the machine): a ROM byte goes
into the image. An address with no storage of its own (I/O, IE, unmapped, no image) is left alone. -/
def placeByte (s : State) (a : Word) (v : Byte) : State :=
  match busDecode s.bus.overlay a with
  | .boot o => { s with bus := { s.bus with boot := Memory.set s.bus.boot o v } }
  | .cart o =>
    match s.cart.image with
    | none => s
    | some im => { s with cart := { s.cart with image := some { im with bytes := Memory.set im.bytes (s.cart.romIndex im o) v } } }
  | .vram o => { s with bus := { s.bus with vram := Memory.set s.bus.vram o v } }
  | .ext o => { s with bus := { s.bus with extram := Memory.set s.bus.extram o v } }
  | .wram o => { s with bus := { s.bus with wram := Memory.set s.bus.wram o v } }
  | .oam o => { s with bus := { s.bus with oam := Memory.set s.bus.oam o v } }
  | .unmapped => s
  | .io _ => s
  | .hram o => { s with bus := { s.bus with hram := Memory.set s.bus.hram o v } }
  | .ie => s

end Sys2Proof.Machine
end

