-- ==== Sys2Proof/Syntax.lean ====
section
/-! DEFINITION. The instructions: one constructor per row of spec/opcode_table.json (512 rows: the primary table, the
0xCB prefix, the 11 illegal opcodes, and the 256 rows behind the prefix), and the operand fields of
spec/30_encoding.md R122-R127 with the constructor each field value selects. -/

namespace Sys2Proof

/-- The registers an r8 field can name (R122); F is never one. -/
inductive Reg8
  | b | c | d | e | h | l | a
  deriving DecidableEq, Repr

/-- An r8 operand (R122): a register, or the byte at address HL (code 110). -/
inductive R8
  | reg (r : Reg8)
  | atHL
  deriving DecidableEq, Repr

/-- The 16-bit register field rr (R123). -/
inductive Reg16
  | bc | de | hl | sp
  deriving DecidableEq, Repr

/-- The 16-bit register field qq of PUSH and POP (R123). -/
inductive Stk16
  | bc | de | hl | af
  deriving DecidableEq, Repr

/-- The condition field cc (R124). -/
inductive Cond
  | nz | z | nc | c
  deriving DecidableEq, Repr

/-- The ALU operation field o (R125). -/
inductive AluOp
  | add | adc | sub | sbc | and | xor | or | cp
  deriving DecidableEq, Repr

/-- The rotate/shift field o of the CB rows (R126). -/
inductive RotOp
  | rlc | rrc | rl | rr | sla | sra | swap | srl
  deriving DecidableEq, Repr

/-- The one-byte accumulator rotates (R231-R234). -/
inductive AccRot
  | rlca | rrca | rla | rra
  deriving DecidableEq, Repr

/-- A 3-bit number field: the bit number b of BIT/RES/SET and the target t of RST (R127). -/
inductive Idx8
  | i0 | i1 | i2 | i3 | i4 | i5 | i6 | i7
  deriving DecidableEq, Repr

/-- The instructions, one per row of spec/opcode_table.json. `prefix_cb` is the row `PREFIX CB`: the prefix byte alone, whose
second byte the instruction itself fetches (R295); the 256 rows after it are the prefixed opcodes decoded whole. -/
inductive Instr
  -- the rows with an operand byte or word (they stand first: the runtime limits the tag of a constructor with fields)
  | ld_bc_nn (nn : Word)
  | ld_b_n (n : Byte)
  | ld_atnn_sp (nn : Word)
  | ld_c_n (n : Byte)
  | ld_de_nn (nn : Word)
  | ld_d_n (n : Byte)
  | jr_e (e : Byte)
  | ld_e_n (n : Byte)
  | jr_nz_e (e : Byte)
  | ld_hl_nn (nn : Word)
  | ld_h_n (n : Byte)
  | jr_z_e (e : Byte)
  | ld_l_n (n : Byte)
  | jr_nc_e (e : Byte)
  | ld_sp_nn (nn : Word)
  | ld_atHL_n (n : Byte)
  | jr_c_e (e : Byte)
  | ld_a_n (n : Byte)
  | jp_nz_nn (nn : Word)
  | jp_nn (nn : Word)
  | call_nz_nn (nn : Word)
  | add_a_n (n : Byte)
  | jp_z_nn (nn : Word)
  | call_z_nn (nn : Word)
  | call_nn (nn : Word)
  | adc_a_n (n : Byte)
  | jp_nc_nn (nn : Word)
  | call_nc_nn (nn : Word)
  | sub_a_n (n : Byte)
  | jp_c_nn (nn : Word)
  | call_c_nn (nn : Word)
  | sbc_a_n (n : Byte)
  | ldh_atn_a (n : Byte)
  | and_a_n (n : Byte)
  | add_sp_e (e : Byte)
  | ld_atnn_a (nn : Word)
  | xor_a_n (n : Byte)
  | ldh_a_atn (n : Byte)
  | or_a_n (n : Byte)
  | ld_hl_sp_e (e : Byte)
  | ld_a_atnn (nn : Word)
  | cp_a_n (n : Byte)
  -- the other primary rows, in the table's order
  | nop
  | ld_atBC_a
  | inc_bc
  | inc_b
  | dec_b
  | rlca
  | add_hl_bc
  | ld_a_atBC
  | dec_bc
  | inc_c
  | dec_c
  | rrca
  | stop
  | ld_atDE_a
  | inc_de
  | inc_d
  | dec_d
  | rla
  | add_hl_de
  | ld_a_atDE
  | dec_de
  | inc_e
  | dec_e
  | rra
  | ld_atHLi_a
  | inc_hl
  | inc_h
  | dec_h
  | daa
  | add_hl_hl
  | ld_a_atHLi
  | dec_hl
  | inc_l
  | dec_l
  | cpl
  | ld_atHLd_a
  | inc_sp
  | inc_atHL
  | dec_atHL
  | scf
  | add_hl_sp
  | ld_a_atHLd
  | dec_sp
  | inc_a
  | dec_a
  | ccf
  | ld_b_b
  | ld_b_c
  | ld_b_d
  | ld_b_e
  | ld_b_h
  | ld_b_l
  | ld_b_atHL
  | ld_b_a
  | ld_c_b
  | ld_c_c
  | ld_c_d
  | ld_c_e
  | ld_c_h
  | ld_c_l
  | ld_c_atHL
  | ld_c_a
  | ld_d_b
  | ld_d_c
  | ld_d_d
  | ld_d_e
  | ld_d_h
  | ld_d_l
  | ld_d_atHL
  | ld_d_a
  | ld_e_b
  | ld_e_c
  | ld_e_d
  | ld_e_e
  | ld_e_h
  | ld_e_l
  | ld_e_atHL
  | ld_e_a
  | ld_h_b
  | ld_h_c
  | ld_h_d
  | ld_h_e
  | ld_h_h
  | ld_h_l
  | ld_h_atHL
  | ld_h_a
  | ld_l_b
  | ld_l_c
  | ld_l_d
  | ld_l_e
  | ld_l_h
  | ld_l_l
  | ld_l_atHL
  | ld_l_a
  | ld_atHL_b
  | ld_atHL_c
  | ld_atHL_d
  | ld_atHL_e
  | ld_atHL_h
  | ld_atHL_l
  | halt
  | ld_atHL_a
  | ld_a_b
  | ld_a_c
  | ld_a_d
  | ld_a_e
  | ld_a_h
  | ld_a_l
  | ld_a_atHL
  | ld_a_a
  | add_a_b
  | add_a_c
  | add_a_d
  | add_a_e
  | add_a_h
  | add_a_l
  | add_a_atHL
  | add_a_a
  | adc_a_b
  | adc_a_c
  | adc_a_d
  | adc_a_e
  | adc_a_h
  | adc_a_l
  | adc_a_atHL
  | adc_a_a
  | sub_a_b
  | sub_a_c
  | sub_a_d
  | sub_a_e
  | sub_a_h
  | sub_a_l
  | sub_a_atHL
  | sub_a_a
  | sbc_a_b
  | sbc_a_c
  | sbc_a_d
  | sbc_a_e
  | sbc_a_h
  | sbc_a_l
  | sbc_a_atHL
  | sbc_a_a
  | and_a_b
  | and_a_c
  | and_a_d
  | and_a_e
  | and_a_h
  | and_a_l
  | and_a_atHL
  | and_a_a
  | xor_a_b
  | xor_a_c
  | xor_a_d
  | xor_a_e
  | xor_a_h
  | xor_a_l
  | xor_a_atHL
  | xor_a_a
  | or_a_b
  | or_a_c
  | or_a_d
  | or_a_e
  | or_a_h
  | or_a_l
  | or_a_atHL
  | or_a_a
  | cp_a_b
  | cp_a_c
  | cp_a_d
  | cp_a_e
  | cp_a_h
  | cp_a_l
  | cp_a_atHL
  | cp_a_a
  | ret_nz
  | pop_bc
  | push_bc
  | rst_00
  | ret_z
  | ret
  | prefix_cb
  | rst_08
  | ret_nc
  | pop_de
  | illegal_d3
  | push_de
  | rst_10
  | ret_c
  | reti
  | illegal_db
  | illegal_dd
  | rst_18
  | pop_hl
  | ld_atC_a
  | illegal_e3
  | illegal_e4
  | push_hl
  | rst_20
  | jp_atHL
  | illegal_eb
  | illegal_ec
  | illegal_ed
  | rst_28
  | pop_af
  | ld_a_atC
  | di
  | illegal_f4
  | push_af
  | rst_30
  | ld_sp_hl
  | ei
  | illegal_fc
  | illegal_fd
  | rst_38
  -- the 256 rows behind the prefix (second byte 0x00 to 0xFF)
  | rlc_b
  | rlc_c
  | rlc_d
  | rlc_e
  | rlc_h
  | rlc_l
  | rlc_atHL
  | rlc_a
  | rrc_b
  | rrc_c
  | rrc_d
  | rrc_e
  | rrc_h
  | rrc_l
  | rrc_atHL
  | rrc_a
  | rl_b
  | rl_c
  | rl_d
  | rl_e
  | rl_h
  | rl_l
  | rl_atHL
  | rl_a
  | rr_b
  | rr_c
  | rr_d
  | rr_e
  | rr_h
  | rr_l
  | rr_atHL
  | rr_a
  | sla_b
  | sla_c
  | sla_d
  | sla_e
  | sla_h
  | sla_l
  | sla_atHL
  | sla_a
  | sra_b
  | sra_c
  | sra_d
  | sra_e
  | sra_h
  | sra_l
  | sra_atHL
  | sra_a
  | swap_b
  | swap_c
  | swap_d
  | swap_e
  | swap_h
  | swap_l
  | swap_atHL
  | swap_a
  | srl_b
  | srl_c
  | srl_d
  | srl_e
  | srl_h
  | srl_l
  | srl_atHL
  | srl_a
  | bit_0_b
  | bit_0_c
  | bit_0_d
  | bit_0_e
  | bit_0_h
  | bit_0_l
  | bit_0_atHL
  | bit_0_a
  | bit_1_b
  | bit_1_c
  | bit_1_d
  | bit_1_e
  | bit_1_h
  | bit_1_l
  | bit_1_atHL
  | bit_1_a
  | bit_2_b
  | bit_2_c
  | bit_2_d
  | bit_2_e
  | bit_2_h
  | bit_2_l
  | bit_2_atHL
  | bit_2_a
  | bit_3_b
  | bit_3_c
  | bit_3_d
  | bit_3_e
  | bit_3_h
  | bit_3_l
  | bit_3_atHL
  | bit_3_a
  | bit_4_b
  | bit_4_c
  | bit_4_d
  | bit_4_e
  | bit_4_h
  | bit_4_l
  | bit_4_atHL
  | bit_4_a
  | bit_5_b
  | bit_5_c
  | bit_5_d
  | bit_5_e
  | bit_5_h
  | bit_5_l
  | bit_5_atHL
  | bit_5_a
  | bit_6_b
  | bit_6_c
  | bit_6_d
  | bit_6_e
  | bit_6_h
  | bit_6_l
  | bit_6_atHL
  | bit_6_a
  | bit_7_b
  | bit_7_c
  | bit_7_d
  | bit_7_e
  | bit_7_h
  | bit_7_l
  | bit_7_atHL
  | bit_7_a
  | res_0_b
  | res_0_c
  | res_0_d
  | res_0_e
  | res_0_h
  | res_0_l
  | res_0_atHL
  | res_0_a
  | res_1_b
  | res_1_c
  | res_1_d
  | res_1_e
  | res_1_h
  | res_1_l
  | res_1_atHL
  | res_1_a
  | res_2_b
  | res_2_c
  | res_2_d
  | res_2_e
  | res_2_h
  | res_2_l
  | res_2_atHL
  | res_2_a
  | res_3_b
  | res_3_c
  | res_3_d
  | res_3_e
  | res_3_h
  | res_3_l
  | res_3_atHL
  | res_3_a
  | res_4_b
  | res_4_c
  | res_4_d
  | res_4_e
  | res_4_h
  | res_4_l
  | res_4_atHL
  | res_4_a
  | res_5_b
  | res_5_c
  | res_5_d
  | res_5_e
  | res_5_h
  | res_5_l
  | res_5_atHL
  | res_5_a
  | res_6_b
  | res_6_c
  | res_6_d
  | res_6_e
  | res_6_h
  | res_6_l
  | res_6_atHL
  | res_6_a
  | res_7_b
  | res_7_c
  | res_7_d
  | res_7_e
  | res_7_h
  | res_7_l
  | res_7_atHL
  | res_7_a
  | set_0_b
  | set_0_c
  | set_0_d
  | set_0_e
  | set_0_h
  | set_0_l
  | set_0_atHL
  | set_0_a
  | set_1_b
  | set_1_c
  | set_1_d
  | set_1_e
  | set_1_h
  | set_1_l
  | set_1_atHL
  | set_1_a
  | set_2_b
  | set_2_c
  | set_2_d
  | set_2_e
  | set_2_h
  | set_2_l
  | set_2_atHL
  | set_2_a
  | set_3_b
  | set_3_c
  | set_3_d
  | set_3_e
  | set_3_h
  | set_3_l
  | set_3_atHL
  | set_3_a
  | set_4_b
  | set_4_c
  | set_4_d
  | set_4_e
  | set_4_h
  | set_4_l
  | set_4_atHL
  | set_4_a
  | set_5_b
  | set_5_c
  | set_5_d
  | set_5_e
  | set_5_h
  | set_5_l
  | set_5_atHL
  | set_5_a
  | set_6_b
  | set_6_c
  | set_6_d
  | set_6_e
  | set_6_h
  | set_6_l
  | set_6_atHL
  | set_6_a
  | set_7_b
  | set_7_c
  | set_7_d
  | set_7_e
  | set_7_h
  | set_7_l
  | set_7_atHL
  | set_7_a
  deriving DecidableEq, Repr

/-- `01dddsss`, d and s registers: LD r,r' (R151). -/
def Instr.ldRegReg : Reg8 → Reg8 → Instr
  | .b, .b => .ld_b_b
  | .b, .c => .ld_b_c
  | .b, .d => .ld_b_d
  | .b, .e => .ld_b_e
  | .b, .h => .ld_b_h
  | .b, .l => .ld_b_l
  | .b, .a => .ld_b_a
  | .c, .b => .ld_c_b
  | .c, .c => .ld_c_c
  | .c, .d => .ld_c_d
  | .c, .e => .ld_c_e
  | .c, .h => .ld_c_h
  | .c, .l => .ld_c_l
  | .c, .a => .ld_c_a
  | .d, .b => .ld_d_b
  | .d, .c => .ld_d_c
  | .d, .d => .ld_d_d
  | .d, .e => .ld_d_e
  | .d, .h => .ld_d_h
  | .d, .l => .ld_d_l
  | .d, .a => .ld_d_a
  | .e, .b => .ld_e_b
  | .e, .c => .ld_e_c
  | .e, .d => .ld_e_d
  | .e, .e => .ld_e_e
  | .e, .h => .ld_e_h
  | .e, .l => .ld_e_l
  | .e, .a => .ld_e_a
  | .h, .b => .ld_h_b
  | .h, .c => .ld_h_c
  | .h, .d => .ld_h_d
  | .h, .e => .ld_h_e
  | .h, .h => .ld_h_h
  | .h, .l => .ld_h_l
  | .h, .a => .ld_h_a
  | .l, .b => .ld_l_b
  | .l, .c => .ld_l_c
  | .l, .d => .ld_l_d
  | .l, .e => .ld_l_e
  | .l, .h => .ld_l_h
  | .l, .l => .ld_l_l
  | .l, .a => .ld_l_a
  | .a, .b => .ld_a_b
  | .a, .c => .ld_a_c
  | .a, .d => .ld_a_d
  | .a, .e => .ld_a_e
  | .a, .h => .ld_a_h
  | .a, .l => .ld_a_l
  | .a, .a => .ld_a_a

/-- `00ddd110 n`, d a register: LD r,n (R152). -/
def Instr.ldRegImm : Reg8 → Byte → Instr
  | .b, n => .ld_b_n n
  | .c, n => .ld_c_n n
  | .d, n => .ld_d_n n
  | .e, n => .ld_e_n n
  | .h, n => .ld_h_n n
  | .l, n => .ld_l_n n
  | .a, n => .ld_a_n n

/-- `01ddd110`, d a register: LD r,(HL) (R153). -/
def Instr.ldRegAtHL : Reg8 → Instr
  | .b => .ld_b_atHL
  | .c => .ld_c_atHL
  | .d => .ld_d_atHL
  | .e => .ld_e_atHL
  | .h => .ld_h_atHL
  | .l => .ld_l_atHL
  | .a => .ld_a_atHL

/-- `01110sss`, s a register: LD (HL),r (R154). -/
def Instr.ldAtHLReg : Reg8 → Instr
  | .b => .ld_atHL_b
  | .c => .ld_atHL_c
  | .d => .ld_atHL_d
  | .e => .ld_atHL_e
  | .h => .ld_atHL_h
  | .l => .ld_atHL_l
  | .a => .ld_atHL_a

/-- `00pp0001 n N`: LD rr,nn (R162). -/
def Instr.ldPairImm : Reg16 → Word → Instr
  | .bc, nn => .ld_bc_nn nn
  | .de, nn => .ld_de_nn nn
  | .hl, nn => .ld_hl_nn nn
  | .sp, nn => .ld_sp_nn nn

/-- `11qq0001`: POP qq (R168). -/
def Instr.pop : Stk16 → Instr
  | .bc => .pop_bc
  | .de => .pop_de
  | .hl => .pop_hl
  | .af => .pop_af

/-- `11qq0101`: PUSH qq (R169). -/
def Instr.push : Stk16 → Instr
  | .bc => .push_bc
  | .de => .push_de
  | .hl => .push_hl
  | .af => .push_af

/-- `10ooosss`: an ALU operation on A and an r8 operand (R180). -/
def Instr.alu : AluOp → R8 → Instr
  | .add, .reg .b => .add_a_b
  | .add, .reg .c => .add_a_c
  | .add, .reg .d => .add_a_d
  | .add, .reg .e => .add_a_e
  | .add, .reg .h => .add_a_h
  | .add, .reg .l => .add_a_l
  | .add, .atHL => .add_a_atHL
  | .add, .reg .a => .add_a_a
  | .adc, .reg .b => .adc_a_b
  | .adc, .reg .c => .adc_a_c
  | .adc, .reg .d => .adc_a_d
  | .adc, .reg .e => .adc_a_e
  | .adc, .reg .h => .adc_a_h
  | .adc, .reg .l => .adc_a_l
  | .adc, .atHL => .adc_a_atHL
  | .adc, .reg .a => .adc_a_a
  | .sub, .reg .b => .sub_a_b
  | .sub, .reg .c => .sub_a_c
  | .sub, .reg .d => .sub_a_d
  | .sub, .reg .e => .sub_a_e
  | .sub, .reg .h => .sub_a_h
  | .sub, .reg .l => .sub_a_l
  | .sub, .atHL => .sub_a_atHL
  | .sub, .reg .a => .sub_a_a
  | .sbc, .reg .b => .sbc_a_b
  | .sbc, .reg .c => .sbc_a_c
  | .sbc, .reg .d => .sbc_a_d
  | .sbc, .reg .e => .sbc_a_e
  | .sbc, .reg .h => .sbc_a_h
  | .sbc, .reg .l => .sbc_a_l
  | .sbc, .atHL => .sbc_a_atHL
  | .sbc, .reg .a => .sbc_a_a
  | .and, .reg .b => .and_a_b
  | .and, .reg .c => .and_a_c
  | .and, .reg .d => .and_a_d
  | .and, .reg .e => .and_a_e
  | .and, .reg .h => .and_a_h
  | .and, .reg .l => .and_a_l
  | .and, .atHL => .and_a_atHL
  | .and, .reg .a => .and_a_a
  | .xor, .reg .b => .xor_a_b
  | .xor, .reg .c => .xor_a_c
  | .xor, .reg .d => .xor_a_d
  | .xor, .reg .e => .xor_a_e
  | .xor, .reg .h => .xor_a_h
  | .xor, .reg .l => .xor_a_l
  | .xor, .atHL => .xor_a_atHL
  | .xor, .reg .a => .xor_a_a
  | .or, .reg .b => .or_a_b
  | .or, .reg .c => .or_a_c
  | .or, .reg .d => .or_a_d
  | .or, .reg .e => .or_a_e
  | .or, .reg .h => .or_a_h
  | .or, .reg .l => .or_a_l
  | .or, .atHL => .or_a_atHL
  | .or, .reg .a => .or_a_a
  | .cp, .reg .b => .cp_a_b
  | .cp, .reg .c => .cp_a_c
  | .cp, .reg .d => .cp_a_d
  | .cp, .reg .e => .cp_a_e
  | .cp, .reg .h => .cp_a_h
  | .cp, .reg .l => .cp_a_l
  | .cp, .atHL => .cp_a_atHL
  | .cp, .reg .a => .cp_a_a

/-- `11ooo110 n`: an ALU operation on A and an immediate (R180). -/
def Instr.aluImm : AluOp → Byte → Instr
  | .add, n => .add_a_n n
  | .adc, n => .adc_a_n n
  | .sub, n => .sub_a_n n
  | .sbc, n => .sbc_a_n n
  | .and, n => .and_a_n n
  | .xor, n => .xor_a_n n
  | .or, n => .or_a_n n
  | .cp, n => .cp_a_n n

/-- `00ddd100`: INC r or INC (HL) (R189, R190). -/
def Instr.incR8 : R8 → Instr
  | .reg .b => .inc_b
  | .reg .c => .inc_c
  | .reg .d => .inc_d
  | .reg .e => .inc_e
  | .reg .h => .inc_h
  | .reg .l => .inc_l
  | .atHL => .inc_atHL
  | .reg .a => .inc_a

/-- `00ddd101`: DEC r or DEC (HL) (R191, R192). -/
def Instr.decR8 : R8 → Instr
  | .reg .b => .dec_b
  | .reg .c => .dec_c
  | .reg .d => .dec_d
  | .reg .e => .dec_e
  | .reg .h => .dec_h
  | .reg .l => .dec_l
  | .atHL => .dec_atHL
  | .reg .a => .dec_a

/-- `00pp1001`: ADD HL,rr (R210). -/
def Instr.addHL : Reg16 → Instr
  | .bc => .add_hl_bc
  | .de => .add_hl_de
  | .hl => .add_hl_hl
  | .sp => .add_hl_sp

/-- `00pp0011`: INC rr (R211). -/
def Instr.incPair : Reg16 → Instr
  | .bc => .inc_bc
  | .de => .inc_de
  | .hl => .inc_hl
  | .sp => .inc_sp

/-- `00pp1011`: DEC rr (R212). -/
def Instr.decPair : Reg16 → Instr
  | .bc => .dec_bc
  | .de => .dec_de
  | .hl => .dec_hl
  | .sp => .dec_sp

/-- The accumulator rotates (R231-R234). -/
def Instr.accRot : AccRot → Instr
  | .rlca => .rlca
  | .rrca => .rrca
  | .rla => .rla
  | .rra => .rra

/-- CB `00ooorrr` (R235-R242). -/
def Instr.rot : RotOp → R8 → Instr
  | .rlc, .reg .b => .rlc_b
  | .rlc, .reg .c => .rlc_c
  | .rlc, .reg .d => .rlc_d
  | .rlc, .reg .e => .rlc_e
  | .rlc, .reg .h => .rlc_h
  | .rlc, .reg .l => .rlc_l
  | .rlc, .atHL => .rlc_atHL
  | .rlc, .reg .a => .rlc_a
  | .rrc, .reg .b => .rrc_b
  | .rrc, .reg .c => .rrc_c
  | .rrc, .reg .d => .rrc_d
  | .rrc, .reg .e => .rrc_e
  | .rrc, .reg .h => .rrc_h
  | .rrc, .reg .l => .rrc_l
  | .rrc, .atHL => .rrc_atHL
  | .rrc, .reg .a => .rrc_a
  | .rl, .reg .b => .rl_b
  | .rl, .reg .c => .rl_c
  | .rl, .reg .d => .rl_d
  | .rl, .reg .e => .rl_e
  | .rl, .reg .h => .rl_h
  | .rl, .reg .l => .rl_l
  | .rl, .atHL => .rl_atHL
  | .rl, .reg .a => .rl_a
  | .rr, .reg .b => .rr_b
  | .rr, .reg .c => .rr_c
  | .rr, .reg .d => .rr_d
  | .rr, .reg .e => .rr_e
  | .rr, .reg .h => .rr_h
  | .rr, .reg .l => .rr_l
  | .rr, .atHL => .rr_atHL
  | .rr, .reg .a => .rr_a
  | .sla, .reg .b => .sla_b
  | .sla, .reg .c => .sla_c
  | .sla, .reg .d => .sla_d
  | .sla, .reg .e => .sla_e
  | .sla, .reg .h => .sla_h
  | .sla, .reg .l => .sla_l
  | .sla, .atHL => .sla_atHL
  | .sla, .reg .a => .sla_a
  | .sra, .reg .b => .sra_b
  | .sra, .reg .c => .sra_c
  | .sra, .reg .d => .sra_d
  | .sra, .reg .e => .sra_e
  | .sra, .reg .h => .sra_h
  | .sra, .reg .l => .sra_l
  | .sra, .atHL => .sra_atHL
  | .sra, .reg .a => .sra_a
  | .swap, .reg .b => .swap_b
  | .swap, .reg .c => .swap_c
  | .swap, .reg .d => .swap_d
  | .swap, .reg .e => .swap_e
  | .swap, .reg .h => .swap_h
  | .swap, .reg .l => .swap_l
  | .swap, .atHL => .swap_atHL
  | .swap, .reg .a => .swap_a
  | .srl, .reg .b => .srl_b
  | .srl, .reg .c => .srl_c
  | .srl, .reg .d => .srl_d
  | .srl, .reg .e => .srl_e
  | .srl, .reg .h => .srl_h
  | .srl, .reg .l => .srl_l
  | .srl, .atHL => .srl_atHL
  | .srl, .reg .a => .srl_a

/-- CB `01bbbrrr`: BIT b,r (R260). -/
def Instr.bitTest : Idx8 → R8 → Instr
  | .i0, .reg .b => .bit_0_b
  | .i0, .reg .c => .bit_0_c
  | .i0, .reg .d => .bit_0_d
  | .i0, .reg .e => .bit_0_e
  | .i0, .reg .h => .bit_0_h
  | .i0, .reg .l => .bit_0_l
  | .i0, .atHL => .bit_0_atHL
  | .i0, .reg .a => .bit_0_a
  | .i1, .reg .b => .bit_1_b
  | .i1, .reg .c => .bit_1_c
  | .i1, .reg .d => .bit_1_d
  | .i1, .reg .e => .bit_1_e
  | .i1, .reg .h => .bit_1_h
  | .i1, .reg .l => .bit_1_l
  | .i1, .atHL => .bit_1_atHL
  | .i1, .reg .a => .bit_1_a
  | .i2, .reg .b => .bit_2_b
  | .i2, .reg .c => .bit_2_c
  | .i2, .reg .d => .bit_2_d
  | .i2, .reg .e => .bit_2_e
  | .i2, .reg .h => .bit_2_h
  | .i2, .reg .l => .bit_2_l
  | .i2, .atHL => .bit_2_atHL
  | .i2, .reg .a => .bit_2_a
  | .i3, .reg .b => .bit_3_b
  | .i3, .reg .c => .bit_3_c
  | .i3, .reg .d => .bit_3_d
  | .i3, .reg .e => .bit_3_e
  | .i3, .reg .h => .bit_3_h
  | .i3, .reg .l => .bit_3_l
  | .i3, .atHL => .bit_3_atHL
  | .i3, .reg .a => .bit_3_a
  | .i4, .reg .b => .bit_4_b
  | .i4, .reg .c => .bit_4_c
  | .i4, .reg .d => .bit_4_d
  | .i4, .reg .e => .bit_4_e
  | .i4, .reg .h => .bit_4_h
  | .i4, .reg .l => .bit_4_l
  | .i4, .atHL => .bit_4_atHL
  | .i4, .reg .a => .bit_4_a
  | .i5, .reg .b => .bit_5_b
  | .i5, .reg .c => .bit_5_c
  | .i5, .reg .d => .bit_5_d
  | .i5, .reg .e => .bit_5_e
  | .i5, .reg .h => .bit_5_h
  | .i5, .reg .l => .bit_5_l
  | .i5, .atHL => .bit_5_atHL
  | .i5, .reg .a => .bit_5_a
  | .i6, .reg .b => .bit_6_b
  | .i6, .reg .c => .bit_6_c
  | .i6, .reg .d => .bit_6_d
  | .i6, .reg .e => .bit_6_e
  | .i6, .reg .h => .bit_6_h
  | .i6, .reg .l => .bit_6_l
  | .i6, .atHL => .bit_6_atHL
  | .i6, .reg .a => .bit_6_a
  | .i7, .reg .b => .bit_7_b
  | .i7, .reg .c => .bit_7_c
  | .i7, .reg .d => .bit_7_d
  | .i7, .reg .e => .bit_7_e
  | .i7, .reg .h => .bit_7_h
  | .i7, .reg .l => .bit_7_l
  | .i7, .atHL => .bit_7_atHL
  | .i7, .reg .a => .bit_7_a

/-- CB `10bbbrrr`: RES b,r (R261). -/
def Instr.bitRes : Idx8 → R8 → Instr
  | .i0, .reg .b => .res_0_b
  | .i0, .reg .c => .res_0_c
  | .i0, .reg .d => .res_0_d
  | .i0, .reg .e => .res_0_e
  | .i0, .reg .h => .res_0_h
  | .i0, .reg .l => .res_0_l
  | .i0, .atHL => .res_0_atHL
  | .i0, .reg .a => .res_0_a
  | .i1, .reg .b => .res_1_b
  | .i1, .reg .c => .res_1_c
  | .i1, .reg .d => .res_1_d
  | .i1, .reg .e => .res_1_e
  | .i1, .reg .h => .res_1_h
  | .i1, .reg .l => .res_1_l
  | .i1, .atHL => .res_1_atHL
  | .i1, .reg .a => .res_1_a
  | .i2, .reg .b => .res_2_b
  | .i2, .reg .c => .res_2_c
  | .i2, .reg .d => .res_2_d
  | .i2, .reg .e => .res_2_e
  | .i2, .reg .h => .res_2_h
  | .i2, .reg .l => .res_2_l
  | .i2, .atHL => .res_2_atHL
  | .i2, .reg .a => .res_2_a
  | .i3, .reg .b => .res_3_b
  | .i3, .reg .c => .res_3_c
  | .i3, .reg .d => .res_3_d
  | .i3, .reg .e => .res_3_e
  | .i3, .reg .h => .res_3_h
  | .i3, .reg .l => .res_3_l
  | .i3, .atHL => .res_3_atHL
  | .i3, .reg .a => .res_3_a
  | .i4, .reg .b => .res_4_b
  | .i4, .reg .c => .res_4_c
  | .i4, .reg .d => .res_4_d
  | .i4, .reg .e => .res_4_e
  | .i4, .reg .h => .res_4_h
  | .i4, .reg .l => .res_4_l
  | .i4, .atHL => .res_4_atHL
  | .i4, .reg .a => .res_4_a
  | .i5, .reg .b => .res_5_b
  | .i5, .reg .c => .res_5_c
  | .i5, .reg .d => .res_5_d
  | .i5, .reg .e => .res_5_e
  | .i5, .reg .h => .res_5_h
  | .i5, .reg .l => .res_5_l
  | .i5, .atHL => .res_5_atHL
  | .i5, .reg .a => .res_5_a
  | .i6, .reg .b => .res_6_b
  | .i6, .reg .c => .res_6_c
  | .i6, .reg .d => .res_6_d
  | .i6, .reg .e => .res_6_e
  | .i6, .reg .h => .res_6_h
  | .i6, .reg .l => .res_6_l
  | .i6, .atHL => .res_6_atHL
  | .i6, .reg .a => .res_6_a
  | .i7, .reg .b => .res_7_b
  | .i7, .reg .c => .res_7_c
  | .i7, .reg .d => .res_7_d
  | .i7, .reg .e => .res_7_e
  | .i7, .reg .h => .res_7_h
  | .i7, .reg .l => .res_7_l
  | .i7, .atHL => .res_7_atHL
  | .i7, .reg .a => .res_7_a

/-- CB `11bbbrrr`: SET b,r (R262). -/
def Instr.bitSet : Idx8 → R8 → Instr
  | .i0, .reg .b => .set_0_b
  | .i0, .reg .c => .set_0_c
  | .i0, .reg .d => .set_0_d
  | .i0, .reg .e => .set_0_e
  | .i0, .reg .h => .set_0_h
  | .i0, .reg .l => .set_0_l
  | .i0, .atHL => .set_0_atHL
  | .i0, .reg .a => .set_0_a
  | .i1, .reg .b => .set_1_b
  | .i1, .reg .c => .set_1_c
  | .i1, .reg .d => .set_1_d
  | .i1, .reg .e => .set_1_e
  | .i1, .reg .h => .set_1_h
  | .i1, .reg .l => .set_1_l
  | .i1, .atHL => .set_1_atHL
  | .i1, .reg .a => .set_1_a
  | .i2, .reg .b => .set_2_b
  | .i2, .reg .c => .set_2_c
  | .i2, .reg .d => .set_2_d
  | .i2, .reg .e => .set_2_e
  | .i2, .reg .h => .set_2_h
  | .i2, .reg .l => .set_2_l
  | .i2, .atHL => .set_2_atHL
  | .i2, .reg .a => .set_2_a
  | .i3, .reg .b => .set_3_b
  | .i3, .reg .c => .set_3_c
  | .i3, .reg .d => .set_3_d
  | .i3, .reg .e => .set_3_e
  | .i3, .reg .h => .set_3_h
  | .i3, .reg .l => .set_3_l
  | .i3, .atHL => .set_3_atHL
  | .i3, .reg .a => .set_3_a
  | .i4, .reg .b => .set_4_b
  | .i4, .reg .c => .set_4_c
  | .i4, .reg .d => .set_4_d
  | .i4, .reg .e => .set_4_e
  | .i4, .reg .h => .set_4_h
  | .i4, .reg .l => .set_4_l
  | .i4, .atHL => .set_4_atHL
  | .i4, .reg .a => .set_4_a
  | .i5, .reg .b => .set_5_b
  | .i5, .reg .c => .set_5_c
  | .i5, .reg .d => .set_5_d
  | .i5, .reg .e => .set_5_e
  | .i5, .reg .h => .set_5_h
  | .i5, .reg .l => .set_5_l
  | .i5, .atHL => .set_5_atHL
  | .i5, .reg .a => .set_5_a
  | .i6, .reg .b => .set_6_b
  | .i6, .reg .c => .set_6_c
  | .i6, .reg .d => .set_6_d
  | .i6, .reg .e => .set_6_e
  | .i6, .reg .h => .set_6_h
  | .i6, .reg .l => .set_6_l
  | .i6, .atHL => .set_6_atHL
  | .i6, .reg .a => .set_6_a
  | .i7, .reg .b => .set_7_b
  | .i7, .reg .c => .set_7_c
  | .i7, .reg .d => .set_7_d
  | .i7, .reg .e => .set_7_e
  | .i7, .reg .h => .set_7_h
  | .i7, .reg .l => .set_7_l
  | .i7, .atHL => .set_7_atHL
  | .i7, .reg .a => .set_7_a

/-- JR cc (R275). -/
def Instr.jrCond : Cond → Byte → Instr
  | .nz, e => .jr_nz_e e
  | .z, e => .jr_z_e e
  | .nc, e => .jr_nc_e e
  | .c, e => .jr_c_e e

/-- JP cc (R272). -/
def Instr.jpCond : Cond → Word → Instr
  | .nz, nn => .jp_nz_nn nn
  | .z, nn => .jp_z_nn nn
  | .nc, nn => .jp_nc_nn nn
  | .c, nn => .jp_c_nn nn

/-- CALL cc (R277). -/
def Instr.callCond : Cond → Word → Instr
  | .nz, nn => .call_nz_nn nn
  | .z, nn => .call_z_nn nn
  | .nc, nn => .call_nc_nn nn
  | .c, nn => .call_c_nn nn

/-- RET cc (R279). -/
def Instr.retCond : Cond → Instr
  | .nz => .ret_nz
  | .z => .ret_z
  | .nc => .ret_nc
  | .c => .ret_c

/-- `11ttt111`: RST t (R283). -/
def Instr.rst : Idx8 → Instr
  | .i0 => .rst_00
  | .i1 => .rst_08
  | .i2 => .rst_10
  | .i3 => .rst_18
  | .i4 => .rst_20
  | .i5 => .rst_28
  | .i6 => .rst_30
  | .i7 => .rst_38

/-- The 11 illegal primary opcodes (R131). -/
inductive IllegalOp
  | opD3 | opDB | opDD | opE3 | opE4 | opEB | opEC | opED | opF4 | opFC | opFD
  deriving DecidableEq, Repr

/-- The row of an illegal opcode (R131, R296). -/
def Instr.illegal : IllegalOp → Instr
  | .opD3 => .illegal_d3
  | .opDB => .illegal_db
  | .opDD => .illegal_dd
  | .opE3 => .illegal_e3
  | .opE4 => .illegal_e4
  | .opEB => .illegal_eb
  | .opEC => .illegal_ec
  | .opED => .illegal_ed
  | .opF4 => .illegal_f4
  | .opFC => .illegal_fc
  | .opFD => .illegal_fd

/-- The byte of an illegal opcode (R131). -/
def IllegalOp.byte : IllegalOp → Byte
  | .opD3 => 0xD3
  | .opDB => 0xDB
  | .opDD => 0xDD
  | .opE3 => 0xE3
  | .opE4 => 0xE4
  | .opEB => 0xEB
  | .opEC => 0xEC
  | .opED => 0xED
  | .opF4 => 0xF4
  | .opFC => 0xFC
  | .opFD => 0xFD

/-- The r8 code of a register (R122). -/
def Reg8.code : Reg8 → BitVec 3
  | .b => 0b000 | .c => 0b001 | .d => 0b010 | .e => 0b011 | .h => 0b100 | .l => 0b101 | .a => 0b111

/-- The r8 code of an operand (R122); 110 is the byte at HL. -/
def R8.code : R8 → BitVec 3
  | .reg r => r.code
  | .atHL => 0b110

/-- The rr code (R123). -/
def Reg16.code : Reg16 → BitVec 2
  | .bc => 0b00 | .de => 0b01 | .hl => 0b10 | .sp => 0b11

/-- The qq code (R123). -/
def Stk16.code : Stk16 → BitVec 2
  | .bc => 0b00 | .de => 0b01 | .hl => 0b10 | .af => 0b11

/-- The cc code (R124). -/
def Cond.code : Cond → BitVec 2
  | .nz => 0b00 | .z => 0b01 | .nc => 0b10 | .c => 0b11

/-- The ALU operation code (R125). -/
def AluOp.code : AluOp → BitVec 3
  | .add => 0b000 | .adc => 0b001 | .sub => 0b010 | .sbc => 0b011
  | .and => 0b100 | .xor => 0b101 | .or => 0b110 | .cp => 0b111

/-- The rotate/shift operation code (R126). -/
def RotOp.code : RotOp → BitVec 3
  | .rlc => 0b000 | .rrc => 0b001 | .rl => 0b010 | .rr => 0b011
  | .sla => 0b100 | .sra => 0b101 | .swap => 0b110 | .srl => 0b111

/-- The number a 3-bit field holds (R127). -/
def Idx8.val : Idx8 → Nat
  | .i0 => 0 | .i1 => 1 | .i2 => 2 | .i3 => 3 | .i4 => 4 | .i5 => 5 | .i6 => 6 | .i7 => 7

/-- The 3 bits of the field (R127). -/
def Idx8.code (k : Idx8) : BitVec 3 := BitVec.ofNat 3 k.val

end Sys2Proof
end

