-- ==== Sys2Proof/Machine/Operands.lean ====
section
/-! DEFINITION. Register access (spec/10_state.md R20-R24, spec/00_scope.md R9) and the operand forms of
spec/30_encoding.md R122-R124. -/

namespace Sys2Proof.Machine

/-- The high byte `v[15:8]` of a word (R22). -/
def hiByte (v : Word) : Byte := v.extractLsb' 8 8

/-- The low byte `v[7:0]` of a word (R22). -/
def loByte (v : Word) : Byte := v.extractLsb' 0 8

/-- What a write to F stores: its low nibble is always zero (R24). -/
def maskF (v : Byte) : Byte := v &&& 0xF0

namespace Cpu

/-- `x[r]` for a register of the r8 field. -/
def getReg (c : Cpu) : Reg8 → Byte
  | .b => c.b | .c => c.c | .d => c.d | .e => c.e | .h => c.h | .l => c.l | .a => c.a

/-- `x[r] <- v` for a register of the r8 field. -/
def setReg (c : Cpu) (r : Reg8) (v : Byte) : Cpu :=
  match r with
  | .b => { c with b := v }
  | .c => { c with c := v }
  | .d => { c with d := v }
  | .e => { c with e := v }
  | .h => { c with h := v }
  | .l => { c with l := v }
  | .a => { c with a := v }

/-- The pair HL, H the high byte (R21). -/
def hl (c : Cpu) : Word := c.h ++ c.l

/-- The pair BC (R21). -/
def bc (c : Cpu) : Word := c.b ++ c.c

/-- The pair DE (R21). -/
def de (c : Cpu) : Word := c.d ++ c.e

/-- The pair AF (R21). -/
def af (c : Cpu) : Word := c.a ++ c.f

/-- A write to HL writes both halves (R22). -/
def setHL (c : Cpu) (v : Word) : Cpu := { c with h := hiByte v, l := loByte v }

/-- `x[rr]` (R123). -/
def getPair (c : Cpu) : Reg16 → Word
  | .bc => c.bc | .de => c.de | .hl => c.hl | .sp => c.sp

/-- `x[rr] <- v` (R22, R123). -/
def setPair (c : Cpu) (p : Reg16) (v : Word) : Cpu :=
  match p with
  | .bc => { c with b := hiByte v, c := loByte v }
  | .de => { c with d := hiByte v, e := loByte v }
  | .hl => c.setHL v
  | .sp => { c with sp := v }

/-- `x[qq]` (R123). -/
def getStk (c : Cpu) : Stk16 → Word
  | .bc => c.bc | .de => c.de | .hl => c.hl | .af => c.af

/-- `x[qq] <- v` (R22, R123): a write to AF clears F's low nibble (R24, R168). -/
def setStk (c : Cpu) (q : Stk16) (v : Word) : Cpu :=
  match q with
  | .bc => { c with b := hiByte v, c := loByte v }
  | .de => { c with d := hiByte v, e := loByte v }
  | .hl => c.setHL v
  | .af => { c with a := hiByte v, f := maskF (loByte v) }

/-- The Z flag, F[7] (R25). -/
def flagZ (c : Cpu) : Bool := c.f.getLsbD 7

/-- The N flag, F[6] (R25). -/
def flagN (c : Cpu) : Bool := c.f.getLsbD 6

/-- The H flag, F[5] (R25). -/
def flagH (c : Cpu) : Bool := c.f.getLsbD 5

/-- The C flag, F[4] (R25). -/
def flagC (c : Cpu) : Bool := c.f.getLsbD 4

/-- `cond(cc)` (R270). -/
def cond (c : Cpu) : Cond → Bool
  | .nz => !c.flagZ | .z => c.flagZ | .nc => !c.flagC | .c => c.flagC

end Cpu

namespace State

/-- The state with the processor replaced. -/
def withCpu (s : State) (c : Cpu) : State := { s with cpu := c }

/-- `x[r] <- v`. -/
def setReg (s : State) (r : Reg8) (v : Byte) : State := s.withCpu (s.cpu.setReg r v)

/-- `x[rr] <- v`. -/
def setPair (s : State) (p : Reg16) (v : Word) : State := s.withCpu (s.cpu.setPair p v)

/-- `x[HL] <- v`. -/
def setHL (s : State) (v : Word) : State := s.withCpu (s.cpu.setHL v)

/-- `x[SP] <- v`. -/
def setSp (s : State) (v : Word) : State := s.withCpu { s.cpu with sp := v }

/-- `pc <- v`. -/
def setPc (s : State) (v : Word) : State := s.withCpu { s.cpu with pc := v }

/-- `IME <- v` (R29). -/
def setIme (s : State) (v : Bool) : State := s.withCpu { s.cpu with ime := v }

/-- Reading an r8 operand (R122, R230): code 110 reads the byte at HL. -/
def readR8 (s : State) : R8 → Byte
  | .reg r => s.cpu.getReg r
  | .atHL => memRead s s.cpu.hl

/-- Writing an r8 operand (R122, R230): code 110 writes the byte at HL. -/
def writeR8 (s : State) (x : R8) (v : Byte) : State :=
  match x with
  | .reg r => s.setReg r v
  | .atHL => memWrite s s.cpu.hl v

end State

end Sys2Proof.Machine
end

