-- ==== Sys2Proof/Machine/Flags.lean ====
section
/-! DEFINITION. The flags as a record (spec/10_state.md R25, R28) and every result-and-flags computation of
spec/41_alu8.md, 42_alu16.md, 43_rotate_shift.md and 44_bit.md, on exact integers narrowed at the end. -/

namespace Sys2Proof.Machine

/-- The four flags of F's top nibble (R25). -/
structure Flags where
  z : Bool
  n : Bool
  h : Bool
  c : Bool
  deriving DecidableEq, Repr

/-- F with these flags and a zero low nibble (R24, R25). -/
def Flags.toByte (g : Flags) : Byte :=
  BitVec.ofBool g.z ++ BitVec.ofBool g.n ++ BitVec.ofBool g.h ++ BitVec.ofBool g.c ++ 0#4

/-- The flags held in F. -/
def Cpu.flags (c : Cpu) : Flags := ⟨c.flagZ, c.flagN, c.flagH, c.flagC⟩

/-- The flags written to F. -/
def State.setFlags (s : State) (g : Flags) : State := s.withCpu { s.cpu with f := g.toByte }

/-- The carry flag as 0 or 1 (R180). -/
def carryBit (c : Bool) : Int := if c then 1 else 0

/-- The low nibble `v[3:0]` as an integer. -/
def lowNibble (v : Byte) : Int := (v.toNat % 16 : Nat)

/-- A sum with carry-in: R181 with `c = 0`, R182 with the carry flag. -/
def addFlags (a v : Byte) (c : Int) : Byte × Flags :=
  let r : Int := a.toNat + v.toNat + c
  let res := BitVec.ofInt 8 r
  (res, ⟨decide (res = 0), false, decide (lowNibble a + lowNibble v + c > 0xF), decide (r > 0xFF)⟩)

/-- A difference with borrow-in: R183 and R188 with `c = 0`, R184 with the carry flag. -/
def subFlags (a v : Byte) (c : Int) : Byte × Flags :=
  let r : Int := a.toNat - v.toNat - c
  let res := BitVec.ofInt 8 r
  (res, ⟨decide (res = 0), true, decide (lowNibble a - lowNibble v - c < 0), decide (r < 0)⟩)

/-- The accumulator operations (R181-R188) on A = `a`, the operand `v` and the old flags: the result and the flags. -/
def aluResult (o : AluOp) (a v : Byte) (g : Flags) : Byte × Flags :=
  match o with
  | .add => addFlags a v 0
  | .adc => addFlags a v (carryBit g.c)
  | .sub => subFlags a v 0
  | .sbc => subFlags a v (carryBit g.c)
  | .and => (a &&& v, ⟨decide (a &&& v = 0), false, true, false⟩)
  | .xor => (a ^^^ v, ⟨decide (a ^^^ v = 0), false, false, false⟩)
  | .or => (a ||| v, ⟨decide (a ||| v = 0), false, false, false⟩)
  | .cp => (a, (subFlags a v 0).2)

/-- INC of a byte (R189): C is kept. -/
def incResult (v : Byte) (g : Flags) : Byte × Flags :=
  let res := v + 1
  (res, ⟨decide (res = 0), false, decide (lowNibble v = 0xF), g.c⟩)

/-- DEC of a byte (R191): C is kept. -/
def decResult (v : Byte) (g : Flags) : Byte × Flags :=
  let res := v - 1
  (res, ⟨decide (res = 0), true, decide (lowNibble v = 0x0), g.c⟩)

/-- DAA (R193): the high correction is tested and made first. -/
def daaResult (a : Byte) (g : Flags) : Byte × Flags :=
  if g.n then
    let a1 := if g.c then a - 0x60 else a
    let a2 := if g.h then a1 - 0x06 else a1
    (a2, ⟨decide (a2 = 0), g.n, false, g.c⟩)
  else
    let high := g.c || decide (a.toNat > 0x99)
    let low := g.h || decide (lowNibble a > 0x9)
    let a1 := if high then a + 0x60 else a
    let a2 := if low then a1 + 0x06 else a1
    (a2, ⟨decide (a2 = 0), g.n, false, high⟩)

/-- The rotates and shifts (R235-R242): the result and the bit shifted out (0 for SWAP). `c` is the carry flag. -/
def rotResult (o : RotOp) (v : Byte) (c : Bool) : Byte × Bool :=
  match o with
  | .rlc => (v.extractLsb' 0 7 ++ BitVec.ofBool (v.getLsbD 7), v.getLsbD 7)
  | .rrc => (BitVec.ofBool (v.getLsbD 0) ++ v.extractLsb' 1 7, v.getLsbD 0)
  | .rl => (v.extractLsb' 0 7 ++ BitVec.ofBool c, v.getLsbD 7)
  | .rr => (BitVec.ofBool c ++ v.extractLsb' 1 7, v.getLsbD 0)
  | .sla => (v.extractLsb' 0 7 ++ 0#1, v.getLsbD 7)
  | .sra => (BitVec.ofBool (v.getLsbD 7) ++ v.extractLsb' 1 7, v.getLsbD 0)
  | .swap => (v.extractLsb' 0 4 ++ v.extractLsb' 4 4, false)
  | .srl => (0#1 ++ v.extractLsb' 1 7, v.getLsbD 0)

/-- The flags of every CB rotate and shift (R230). -/
def rotFlags (res : Byte) (out : Bool) : Flags := ⟨decide (res = 0), false, false, out⟩

/-- The operation an accumulator rotate shares with the CB group (R231-R234). -/
def accRotOp : AccRot → RotOp
  | .rlca => .rlc | .rrca => .rrc | .rla => .rl | .rra => .rr

/-- The flags of an accumulator rotate: Z by P_ACC_ROTATE_Z (43_rotate_shift.md, section 1). -/
def accRotFlags (p : Config.AccRotateZ) (res : Byte) (out : Bool) : Flags :=
  match p with
  | .cleared => ⟨false, false, false, out⟩
  | .fromResult => rotFlags res out

/-- The flags of BIT b (R260): C is kept. -/
def bitFlags (b : Nat) (v : Byte) (g : Flags) : Flags := ⟨!v.getLsbD b, false, true, g.c⟩

/-- ADD HL,rr (R210): the carry out of bit 11 is H; Z is kept. -/
def addHLResult (h v : Word) (g : Flags) : Word × Flags :=
  (h + v, ⟨g.z, false, decide (h.toNat % 0x1000 + v.toNat % 0x1000 > 0xFFF), decide (h.toNat + v.toNat > 0xFFFF)⟩)

/-- `sext_16(e)` (R10). -/
def sext16 (e : Byte) : Word := e.signExtend 16

/-- SP + e (R213, R214): H and C come from the unsigned sum of SP's low byte and the raw byte e. -/
def spPlusResult (sp : Word) (e : Byte) : Word × Flags :=
  (sp + sext16 e,
    ⟨false, false, decide (sp.toNat % 0x10 + e.toNat % 0x10 > 0xF), decide (sp.toNat % 0x100 + e.toNat > 0xFF)⟩)

end Sys2Proof.Machine
end

