-- ==== Sys2Proof/Machine/Ops.lean ====
section
/-! DEFINITION. The shared operations: instruction-stream and stack primitives (spec/00_scope.md R12), reporting an
instruction's cost (R13), taking an exception (the FatalDecodeError of spec/60_exceptions.md R310 and interrupt dispatch,
R320-R328) and the return from an interrupt (R327). -/

namespace Sys2Proof.Machine

/-- What a meaning answers. -/
abbrev Result := Host.Outcome State Fault Refusal

/-! ## The stack and the instruction stream -/

/-- Push16 (R12): the high byte at SP - 1, then the low byte at SP - 2. -/
def push16 (s : State) (v : Word) : State :=
  let s1 := s.setSp (s.cpu.sp - 1)
  let s2 := memWrite s1 s1.cpu.sp (hiByte v)
  let s3 := s2.setSp (s2.cpu.sp - 1)
  memWrite s3 s3.cpu.sp (loByte v)

/-- The word Pop16 returns (R12): the low byte at SP, the high byte at SP + 1. -/
def stackWord (s : State) : Word := memRead s (s.cpu.sp + 1) ++ memRead s s.cpu.sp

/-- What Pop16 does to the state (R12): SP moves up by two. -/
def pop16 (s : State) : State := s.setSp (s.cpu.sp + 2)

/-- What `fetch8()` returns (R12). -/
def fetchByte (s : State) : Byte := memRead s s.cpu.pc

/-- What `fetch8()` does to the state (R12, R27): PC moves on, modulo 2^16. -/
def advancePc (s : State) : State := s.setPc (s.cpu.pc + 1)

/-! ## The reported cost -/

/-- The state with a cost reported (R13: `cycles <- n`). -/
def State.setCycles (s : State) (t : Nat) : State := { s with sys := { s.sys with cycles := t } }

/-- An instruction completes: it reports the cost of its opcode (R129, R136). -/
def retire (op : Nat) (s : State) : Result := .next (s.setCycles (opcodeCost s.params op).taken)

/-- A conditional transfer completes: it reports the taken or the not-taken cost (R129). -/
def retireCond (op : Nat) (taken : Bool) (s : State) : Result :=
  let c := opcodeCost s.params op
  .next (s.setCycles (if taken then c.taken else c.notTaken))

/-! ## Exceptions -/

/-- The interrupt sources, by their bit of IF and IE (R320). -/
inductive IrqSource
  | vblank | lcdStat | timer | serial | joypad
  deriving DecidableEq, Repr

/-- The bit of a source in IF and IE (R30). -/
def IrqSource.bit : IrqSource → Nat
  | .vblank => 0 | .lcdStat => 1 | .timer => 2 | .serial => 3 | .joypad => 4

/-- The vector of a source (R81, R323). Serial has none and is never dispatched (R322); its value here is never used. -/
def IrqSource.vector : IrqSource → Word
  | .vblank => 0x0040 | .lcdStat => 0x0048 | .timer => 0x0050 | .serial => 0x0000 | .joypad => 0x0060

/-- The mask of a source. -/
def IrqSource.mask (i : IrqSource) : BitVec 5 := 1#5 <<< i.bit

/-- A peripheral's request sets its IF bit (R320). -/
def requestIrq (i : IrqSource) (s : State) : State := { s with irq := { s.irq with ifl := s.irq.ifl ||| i.mask } }

/-- The first eligible source in the order 0, 1, 2, 4 (R322): bit 3 is not scanned. -/
def firstEligible (pend : BitVec 5) : Option IrqSource :=
  if pend.getLsbD 0 then some .vblank
  else if pend.getLsbD 1 then some .lcdStat
  else if pend.getLsbD 2 then some .timer
  else if pend.getLsbD 4 then some .joypad
  else none

/-- Dispatch, the taking of an interrupt (R323): its IF bit and IME are cleared, PC is pushed through the bus, PC takes the vector,
16 t are charged and `halted` is cleared, in this order. -/
def takeInterrupt (i : IrqSource) (s : State) : State :=
  let s1 := { s with irq := { s.irq with ifl := s.irq.ifl &&& ~~~i.mask } }
  let s2 := s1.setIme false
  let s3 := push16 s2 s2.cpu.pc
  let s4 := s3.setPc i.vector
  { s4 with cpu := { s4.cpu with halted := false }, sys := { s4.sys with dispatchT := s4.sys.dispatchT + 16 } }

/-- The requests that are both pending and enabled (R321). -/
def pendingEnabled (s : State) : BitVec 5 := s.irq.ifl &&& s.irq.ie

/-- The interrupt pass, `Evaluate()` (R322-R324). -/
def evaluate (s : State) : State :=
  let pend := pendingEnabled s
  if s.cpu.ime then
    match firstEligible pend with
    | some i => takeInterrupt i s
    | none => s
  else if pend ≠ 0 ∧ s.cpu.halted = true then s.withCpu { s.cpu with halted := false }
  else s

/-- The return from an interrupt, RETI (R282, R327): PC is popped and IME is set; nothing else is restored. -/
def returnFromInterrupt (s : State) : State := ((pop16 s).setPc (stackWord s)).setIme true

/-- The FatalDecodeError (R310) of the opcode byte just fetched: it is recorded with its address, and PC is put back to it. -/
def raiseDecodeError (opcode : Byte) (s : State) : State :=
  let a := s.cpu.pc - 1
  { s with cpu := { s.cpu with pc := a }, sys := { s.sys with fault := some ⟨opcode, a⟩ } }

end Sys2Proof.Machine
end

