-- ==== Sys2Proof/Machine/Alu16.lean ====
section
/-! DEFINITION. 16-bit arithmetic (spec/42_alu16.md R210-R214). -/

namespace Sys2Proof.Machine

/-- ADD HL,rr (R210). -/
def addHLOp (p : Reg16) (s : State) : State :=
  let r := addHLResult s.cpu.hl (s.cpu.getPair p) s.cpu.flags
  (s.setHL r.1).setFlags r.2

/-- INC rr (R211). -/
def incPairOp (p : Reg16) (s : State) : State := s.setPair p (s.cpu.getPair p + 1)

/-- DEC rr (R212). -/
def decPairOp (p : Reg16) (s : State) : State := s.setPair p (s.cpu.getPair p - 1)

/-- ADD SP,e (R213). -/
def addSpOp (e : Byte) (s : State) : State :=
  let r := spPlusResult s.cpu.sp e
  (s.setSp r.1).setFlags r.2

/-- LD HL,SP+e (R214). -/
def ldHLSpOp (e : Byte) (s : State) : State :=
  let r := spPlusResult s.cpu.sp e
  (s.setHL r.1).setFlags r.2

/-! ## The meanings -/

/-- `ADD HL,BC` (R210). -/
def execAdd_hl_bc (s : State) : Result := retire 0x09 (addHLOp .bc s)
/-- `ADD HL,DE` (R210). -/
def execAdd_hl_de (s : State) : Result := retire 0x19 (addHLOp .de s)
/-- `ADD HL,HL` (R210). -/
def execAdd_hl_hl (s : State) : Result := retire 0x29 (addHLOp .hl s)
/-- `ADD HL,SP` (R210). -/
def execAdd_hl_sp (s : State) : Result := retire 0x39 (addHLOp .sp s)
/-- `INC BC` (R211). -/
def execInc_bc (s : State) : Result := retire 0x03 (incPairOp .bc s)
/-- `INC DE` (R211). -/
def execInc_de (s : State) : Result := retire 0x13 (incPairOp .de s)
/-- `INC HL` (R211). -/
def execInc_hl (s : State) : Result := retire 0x23 (incPairOp .hl s)
/-- `INC SP` (R211). -/
def execInc_sp (s : State) : Result := retire 0x33 (incPairOp .sp s)
/-- `DEC BC` (R212). -/
def execDec_bc (s : State) : Result := retire 0x0B (decPairOp .bc s)
/-- `DEC DE` (R212). -/
def execDec_de (s : State) : Result := retire 0x1B (decPairOp .de s)
/-- `DEC HL` (R212). -/
def execDec_hl (s : State) : Result := retire 0x2B (decPairOp .hl s)
/-- `DEC SP` (R212). -/
def execDec_sp (s : State) : Result := retire 0x3B (decPairOp .sp s)
/-- `ADD SP,e` (R213). -/
def execAdd_sp_e (e : Byte) (s : State) : Result := retire 0xE8 (addSpOp e s)
/-- `LD HL,SP+e` (R214). -/
def execLd_hl_sp_e (e : Byte) (s : State) : Result := retire 0xF8 (ldHLSpOp e s)

end Sys2Proof.Machine
end

