-- ==== Sys2Proof/Machine/Alu8.lean ====
section
/-! DEFINITION. 8-bit arithmetic and logic (spec/41_alu8.md R180-R196). -/

namespace Sys2Proof.Machine

/-- An accumulator operation on an operand value (R181-R188): CP leaves A as it is. -/
def aluOp (o : AluOp) (v : Byte) (s : State) : State :=
  let r := aluResult o s.cpu.a v s.cpu.flags
  (s.setReg .a r.1).setFlags r.2

/-- INC r and INC (HL) (R189, R190): the flags come from v + 1, not from a value read back. -/
def incOp (x : R8) (s : State) : State :=
  let r := incResult (s.readR8 x) s.cpu.flags
  (s.writeR8 x r.1).setFlags r.2

/-- DEC r and DEC (HL) (R191, R192). -/
def decOp (x : R8) (s : State) : State :=
  let r := decResult (s.readR8 x) s.cpu.flags
  (s.writeR8 x r.1).setFlags r.2

/-- DAA (R193). -/
def daaOp (s : State) : State :=
  let r := daaResult s.cpu.a s.cpu.flags
  (s.setReg .a r.1).setFlags r.2

/-- CPL (R194). -/
def cplOp (s : State) : State := (s.setReg .a (s.cpu.a ^^^ 0xFF)).setFlags ⟨s.cpu.flagZ, true, true, s.cpu.flagC⟩

/-- SCF (R195). -/
def scfOp (s : State) : State := s.setFlags ⟨s.cpu.flagZ, false, false, true⟩

/-- CCF (R196). -/
def ccfOp (s : State) : State := s.setFlags ⟨s.cpu.flagZ, false, false, !s.cpu.flagC⟩

/-! ## The meanings -/

/-- `ADD A,B` (R181). -/
def execAdd_a_b (s : State) : Result := retire 0x80 (aluOp .add (s.readR8 (.reg .b)) s)
/-- `ADD A,C` (R181). -/
def execAdd_a_c (s : State) : Result := retire 0x81 (aluOp .add (s.readR8 (.reg .c)) s)
/-- `ADD A,D` (R181). -/
def execAdd_a_d (s : State) : Result := retire 0x82 (aluOp .add (s.readR8 (.reg .d)) s)
/-- `ADD A,E` (R181). -/
def execAdd_a_e (s : State) : Result := retire 0x83 (aluOp .add (s.readR8 (.reg .e)) s)
/-- `ADD A,H` (R181). -/
def execAdd_a_h (s : State) : Result := retire 0x84 (aluOp .add (s.readR8 (.reg .h)) s)
/-- `ADD A,L` (R181). -/
def execAdd_a_l (s : State) : Result := retire 0x85 (aluOp .add (s.readR8 (.reg .l)) s)
/-- `ADD A,(HL)` (R181). -/
def execAdd_a_atHL (s : State) : Result := retire 0x86 (aluOp .add (s.readR8 .atHL) s)
/-- `ADD A,A` (R181). -/
def execAdd_a_a (s : State) : Result := retire 0x87 (aluOp .add (s.readR8 (.reg .a)) s)
/-- `ADD A,n` (R181). -/
def execAdd_a_n (n : Byte) (s : State) : Result := retire 0xC6 (aluOp .add n s)
/-- `ADC A,B` (R182). -/
def execAdc_a_b (s : State) : Result := retire 0x88 (aluOp .adc (s.readR8 (.reg .b)) s)
/-- `ADC A,C` (R182). -/
def execAdc_a_c (s : State) : Result := retire 0x89 (aluOp .adc (s.readR8 (.reg .c)) s)
/-- `ADC A,D` (R182). -/
def execAdc_a_d (s : State) : Result := retire 0x8A (aluOp .adc (s.readR8 (.reg .d)) s)
/-- `ADC A,E` (R182). -/
def execAdc_a_e (s : State) : Result := retire 0x8B (aluOp .adc (s.readR8 (.reg .e)) s)
/-- `ADC A,H` (R182). -/
def execAdc_a_h (s : State) : Result := retire 0x8C (aluOp .adc (s.readR8 (.reg .h)) s)
/-- `ADC A,L` (R182). -/
def execAdc_a_l (s : State) : Result := retire 0x8D (aluOp .adc (s.readR8 (.reg .l)) s)
/-- `ADC A,(HL)` (R182). -/
def execAdc_a_atHL (s : State) : Result := retire 0x8E (aluOp .adc (s.readR8 .atHL) s)
/-- `ADC A,A` (R182). -/
def execAdc_a_a (s : State) : Result := retire 0x8F (aluOp .adc (s.readR8 (.reg .a)) s)
/-- `ADC A,n` (R182). -/
def execAdc_a_n (n : Byte) (s : State) : Result := retire 0xCE (aluOp .adc n s)
/-- `SUB A,B` (R183). -/
def execSub_a_b (s : State) : Result := retire 0x90 (aluOp .sub (s.readR8 (.reg .b)) s)
/-- `SUB A,C` (R183). -/
def execSub_a_c (s : State) : Result := retire 0x91 (aluOp .sub (s.readR8 (.reg .c)) s)
/-- `SUB A,D` (R183). -/
def execSub_a_d (s : State) : Result := retire 0x92 (aluOp .sub (s.readR8 (.reg .d)) s)
/-- `SUB A,E` (R183). -/
def execSub_a_e (s : State) : Result := retire 0x93 (aluOp .sub (s.readR8 (.reg .e)) s)
/-- `SUB A,H` (R183). -/
def execSub_a_h (s : State) : Result := retire 0x94 (aluOp .sub (s.readR8 (.reg .h)) s)
/-- `SUB A,L` (R183). -/
def execSub_a_l (s : State) : Result := retire 0x95 (aluOp .sub (s.readR8 (.reg .l)) s)
/-- `SUB A,(HL)` (R183). -/
def execSub_a_atHL (s : State) : Result := retire 0x96 (aluOp .sub (s.readR8 .atHL) s)
/-- `SUB A,A` (R183). -/
def execSub_a_a (s : State) : Result := retire 0x97 (aluOp .sub (s.readR8 (.reg .a)) s)
/-- `SUB A,n` (R183). -/
def execSub_a_n (n : Byte) (s : State) : Result := retire 0xD6 (aluOp .sub n s)
/-- `SBC A,B` (R184). -/
def execSbc_a_b (s : State) : Result := retire 0x98 (aluOp .sbc (s.readR8 (.reg .b)) s)
/-- `SBC A,C` (R184). -/
def execSbc_a_c (s : State) : Result := retire 0x99 (aluOp .sbc (s.readR8 (.reg .c)) s)
/-- `SBC A,D` (R184). -/
def execSbc_a_d (s : State) : Result := retire 0x9A (aluOp .sbc (s.readR8 (.reg .d)) s)
/-- `SBC A,E` (R184). -/
def execSbc_a_e (s : State) : Result := retire 0x9B (aluOp .sbc (s.readR8 (.reg .e)) s)
/-- `SBC A,H` (R184). -/
def execSbc_a_h (s : State) : Result := retire 0x9C (aluOp .sbc (s.readR8 (.reg .h)) s)
/-- `SBC A,L` (R184). -/
def execSbc_a_l (s : State) : Result := retire 0x9D (aluOp .sbc (s.readR8 (.reg .l)) s)
/-- `SBC A,(HL)` (R184). -/
def execSbc_a_atHL (s : State) : Result := retire 0x9E (aluOp .sbc (s.readR8 .atHL) s)
/-- `SBC A,A` (R184). -/
def execSbc_a_a (s : State) : Result := retire 0x9F (aluOp .sbc (s.readR8 (.reg .a)) s)
/-- `SBC A,n` (R184). -/
def execSbc_a_n (n : Byte) (s : State) : Result := retire 0xDE (aluOp .sbc n s)
/-- `AND A,B` (R185). -/
def execAnd_a_b (s : State) : Result := retire 0xA0 (aluOp .and (s.readR8 (.reg .b)) s)
/-- `AND A,C` (R185). -/
def execAnd_a_c (s : State) : Result := retire 0xA1 (aluOp .and (s.readR8 (.reg .c)) s)
/-- `AND A,D` (R185). -/
def execAnd_a_d (s : State) : Result := retire 0xA2 (aluOp .and (s.readR8 (.reg .d)) s)
/-- `AND A,E` (R185). -/
def execAnd_a_e (s : State) : Result := retire 0xA3 (aluOp .and (s.readR8 (.reg .e)) s)
/-- `AND A,H` (R185). -/
def execAnd_a_h (s : State) : Result := retire 0xA4 (aluOp .and (s.readR8 (.reg .h)) s)
/-- `AND A,L` (R185). -/
def execAnd_a_l (s : State) : Result := retire 0xA5 (aluOp .and (s.readR8 (.reg .l)) s)
/-- `AND A,(HL)` (R185). -/
def execAnd_a_atHL (s : State) : Result := retire 0xA6 (aluOp .and (s.readR8 .atHL) s)
/-- `AND A,A` (R185). -/
def execAnd_a_a (s : State) : Result := retire 0xA7 (aluOp .and (s.readR8 (.reg .a)) s)
/-- `AND A,n` (R185). -/
def execAnd_a_n (n : Byte) (s : State) : Result := retire 0xE6 (aluOp .and n s)
/-- `XOR A,B` (R186). -/
def execXor_a_b (s : State) : Result := retire 0xA8 (aluOp .xor (s.readR8 (.reg .b)) s)
/-- `XOR A,C` (R186). -/
def execXor_a_c (s : State) : Result := retire 0xA9 (aluOp .xor (s.readR8 (.reg .c)) s)
/-- `XOR A,D` (R186). -/
def execXor_a_d (s : State) : Result := retire 0xAA (aluOp .xor (s.readR8 (.reg .d)) s)
/-- `XOR A,E` (R186). -/
def execXor_a_e (s : State) : Result := retire 0xAB (aluOp .xor (s.readR8 (.reg .e)) s)
/-- `XOR A,H` (R186). -/
def execXor_a_h (s : State) : Result := retire 0xAC (aluOp .xor (s.readR8 (.reg .h)) s)
/-- `XOR A,L` (R186). -/
def execXor_a_l (s : State) : Result := retire 0xAD (aluOp .xor (s.readR8 (.reg .l)) s)
/-- `XOR A,(HL)` (R186). -/
def execXor_a_atHL (s : State) : Result := retire 0xAE (aluOp .xor (s.readR8 .atHL) s)
/-- `XOR A,A` (R186). -/
def execXor_a_a (s : State) : Result := retire 0xAF (aluOp .xor (s.readR8 (.reg .a)) s)
/-- `XOR A,n` (R186). -/
def execXor_a_n (n : Byte) (s : State) : Result := retire 0xEE (aluOp .xor n s)
/-- `OR A,B` (R187). -/
def execOr_a_b (s : State) : Result := retire 0xB0 (aluOp .or (s.readR8 (.reg .b)) s)
/-- `OR A,C` (R187). -/
def execOr_a_c (s : State) : Result := retire 0xB1 (aluOp .or (s.readR8 (.reg .c)) s)
/-- `OR A,D` (R187). -/
def execOr_a_d (s : State) : Result := retire 0xB2 (aluOp .or (s.readR8 (.reg .d)) s)
/-- `OR A,E` (R187). -/
def execOr_a_e (s : State) : Result := retire 0xB3 (aluOp .or (s.readR8 (.reg .e)) s)
/-- `OR A,H` (R187). -/
def execOr_a_h (s : State) : Result := retire 0xB4 (aluOp .or (s.readR8 (.reg .h)) s)
/-- `OR A,L` (R187). -/
def execOr_a_l (s : State) : Result := retire 0xB5 (aluOp .or (s.readR8 (.reg .l)) s)
/-- `OR A,(HL)` (R187). -/
def execOr_a_atHL (s : State) : Result := retire 0xB6 (aluOp .or (s.readR8 .atHL) s)
/-- `OR A,A` (R187). -/
def execOr_a_a (s : State) : Result := retire 0xB7 (aluOp .or (s.readR8 (.reg .a)) s)
/-- `OR A,n` (R187). -/
def execOr_a_n (n : Byte) (s : State) : Result := retire 0xF6 (aluOp .or n s)
/-- `CP A,B` (R188). -/
def execCp_a_b (s : State) : Result := retire 0xB8 (aluOp .cp (s.readR8 (.reg .b)) s)
/-- `CP A,C` (R188). -/
def execCp_a_c (s : State) : Result := retire 0xB9 (aluOp .cp (s.readR8 (.reg .c)) s)
/-- `CP A,D` (R188). -/
def execCp_a_d (s : State) : Result := retire 0xBA (aluOp .cp (s.readR8 (.reg .d)) s)
/-- `CP A,E` (R188). -/
def execCp_a_e (s : State) : Result := retire 0xBB (aluOp .cp (s.readR8 (.reg .e)) s)
/-- `CP A,H` (R188). -/
def execCp_a_h (s : State) : Result := retire 0xBC (aluOp .cp (s.readR8 (.reg .h)) s)
/-- `CP A,L` (R188). -/
def execCp_a_l (s : State) : Result := retire 0xBD (aluOp .cp (s.readR8 (.reg .l)) s)
/-- `CP A,(HL)` (R188). -/
def execCp_a_atHL (s : State) : Result := retire 0xBE (aluOp .cp (s.readR8 .atHL) s)
/-- `CP A,A` (R188). -/
def execCp_a_a (s : State) : Result := retire 0xBF (aluOp .cp (s.readR8 (.reg .a)) s)
/-- `CP A,n` (R188). -/
def execCp_a_n (n : Byte) (s : State) : Result := retire 0xFE (aluOp .cp n s)
/-- `INC B` (R189). -/
def execInc_b (s : State) : Result := retire 0x04 (incOp (.reg .b) s)
/-- `INC C` (R189). -/
def execInc_c (s : State) : Result := retire 0x0C (incOp (.reg .c) s)
/-- `INC D` (R189). -/
def execInc_d (s : State) : Result := retire 0x14 (incOp (.reg .d) s)
/-- `INC E` (R189). -/
def execInc_e (s : State) : Result := retire 0x1C (incOp (.reg .e) s)
/-- `INC H` (R189). -/
def execInc_h (s : State) : Result := retire 0x24 (incOp (.reg .h) s)
/-- `INC L` (R189). -/
def execInc_l (s : State) : Result := retire 0x2C (incOp (.reg .l) s)
/-- `INC (HL)` (R190). -/
def execInc_atHL (s : State) : Result := retire 0x34 (incOp .atHL s)
/-- `INC A` (R189). -/
def execInc_a (s : State) : Result := retire 0x3C (incOp (.reg .a) s)
/-- `DEC B` (R191). -/
def execDec_b (s : State) : Result := retire 0x05 (decOp (.reg .b) s)
/-- `DEC C` (R191). -/
def execDec_c (s : State) : Result := retire 0x0D (decOp (.reg .c) s)
/-- `DEC D` (R191). -/
def execDec_d (s : State) : Result := retire 0x15 (decOp (.reg .d) s)
/-- `DEC E` (R191). -/
def execDec_e (s : State) : Result := retire 0x1D (decOp (.reg .e) s)
/-- `DEC H` (R191). -/
def execDec_h (s : State) : Result := retire 0x25 (decOp (.reg .h) s)
/-- `DEC L` (R191). -/
def execDec_l (s : State) : Result := retire 0x2D (decOp (.reg .l) s)
/-- `DEC (HL)` (R192). -/
def execDec_atHL (s : State) : Result := retire 0x35 (decOp .atHL s)
/-- `DEC A` (R191). -/
def execDec_a (s : State) : Result := retire 0x3D (decOp (.reg .a) s)
/-- `DAA` (R193). -/
def execDaa (s : State) : Result := retire 0x27 (daaOp s)
/-- `CPL` (R194). -/
def execCpl (s : State) : Result := retire 0x2F (cplOp s)
/-- `SCF` (R195). -/
def execScf (s : State) : Result := retire 0x37 (scfOp s)
/-- `CCF` (R196). -/
def execCcf (s : State) : Result := retire 0x3F (ccfOp s)

end Sys2Proof.Machine
end

