-- ==== Sys2Proof/Machine/Bit.lean ====
section
/-! DEFINITION. Single-bit operations (spec/44_bit.md R260-R262). -/

namespace Sys2Proof.Machine

/-- BIT b,r (R260): nothing is written back. -/
def bitOpr (b : Idx8) (x : R8) (s : State) : State := s.setFlags (bitFlags b.val (s.readR8 x) s.cpu.flags)

/-- RES b,r (R261): read and written even where the bit is already 0. -/
def resOpr (b : Idx8) (x : R8) (s : State) : State := s.writeR8 x (s.readR8 x &&& ~~~(1#8 <<< b.val))

/-- SET b,r (R262). -/
def setOpr (b : Idx8) (x : R8) (s : State) : State := s.writeR8 x (s.readR8 x ||| 1#8 <<< b.val)

/-! ## The meanings -/

/-- `BIT 0,B` (R260). -/
def execBit_0_b (s : State) : Result := retire 0x140 (bitOpr .i0 (.reg .b) s)
/-- `BIT 0,C` (R260). -/
def execBit_0_c (s : State) : Result := retire 0x141 (bitOpr .i0 (.reg .c) s)
/-- `BIT 0,D` (R260). -/
def execBit_0_d (s : State) : Result := retire 0x142 (bitOpr .i0 (.reg .d) s)
/-- `BIT 0,E` (R260). -/
def execBit_0_e (s : State) : Result := retire 0x143 (bitOpr .i0 (.reg .e) s)
/-- `BIT 0,H` (R260). -/
def execBit_0_h (s : State) : Result := retire 0x144 (bitOpr .i0 (.reg .h) s)
/-- `BIT 0,L` (R260). -/
def execBit_0_l (s : State) : Result := retire 0x145 (bitOpr .i0 (.reg .l) s)
/-- `BIT 0,(HL)` (R260). -/
def execBit_0_atHL (s : State) : Result := retire 0x146 (bitOpr .i0 .atHL s)
/-- `BIT 0,A` (R260). -/
def execBit_0_a (s : State) : Result := retire 0x147 (bitOpr .i0 (.reg .a) s)
/-- `BIT 1,B` (R260). -/
def execBit_1_b (s : State) : Result := retire 0x148 (bitOpr .i1 (.reg .b) s)
/-- `BIT 1,C` (R260). -/
def execBit_1_c (s : State) : Result := retire 0x149 (bitOpr .i1 (.reg .c) s)
/-- `BIT 1,D` (R260). -/
def execBit_1_d (s : State) : Result := retire 0x14A (bitOpr .i1 (.reg .d) s)
/-- `BIT 1,E` (R260). -/
def execBit_1_e (s : State) : Result := retire 0x14B (bitOpr .i1 (.reg .e) s)
/-- `BIT 1,H` (R260). -/
def execBit_1_h (s : State) : Result := retire 0x14C (bitOpr .i1 (.reg .h) s)
/-- `BIT 1,L` (R260). -/
def execBit_1_l (s : State) : Result := retire 0x14D (bitOpr .i1 (.reg .l) s)
/-- `BIT 1,(HL)` (R260). -/
def execBit_1_atHL (s : State) : Result := retire 0x14E (bitOpr .i1 .atHL s)
/-- `BIT 1,A` (R260). -/
def execBit_1_a (s : State) : Result := retire 0x14F (bitOpr .i1 (.reg .a) s)
/-- `BIT 2,B` (R260). -/
def execBit_2_b (s : State) : Result := retire 0x150 (bitOpr .i2 (.reg .b) s)
/-- `BIT 2,C` (R260). -/
def execBit_2_c (s : State) : Result := retire 0x151 (bitOpr .i2 (.reg .c) s)
/-- `BIT 2,D` (R260). -/
def execBit_2_d (s : State) : Result := retire 0x152 (bitOpr .i2 (.reg .d) s)
/-- `BIT 2,E` (R260). -/
def execBit_2_e (s : State) : Result := retire 0x153 (bitOpr .i2 (.reg .e) s)
/-- `BIT 2,H` (R260). -/
def execBit_2_h (s : State) : Result := retire 0x154 (bitOpr .i2 (.reg .h) s)
/-- `BIT 2,L` (R260). -/
def execBit_2_l (s : State) : Result := retire 0x155 (bitOpr .i2 (.reg .l) s)
/-- `BIT 2,(HL)` (R260). -/
def execBit_2_atHL (s : State) : Result := retire 0x156 (bitOpr .i2 .atHL s)
/-- `BIT 2,A` (R260). -/
def execBit_2_a (s : State) : Result := retire 0x157 (bitOpr .i2 (.reg .a) s)
/-- `BIT 3,B` (R260). -/
def execBit_3_b (s : State) : Result := retire 0x158 (bitOpr .i3 (.reg .b) s)
/-- `BIT 3,C` (R260). -/
def execBit_3_c (s : State) : Result := retire 0x159 (bitOpr .i3 (.reg .c) s)
/-- `BIT 3,D` (R260). -/
def execBit_3_d (s : State) : Result := retire 0x15A (bitOpr .i3 (.reg .d) s)
/-- `BIT 3,E` (R260). -/
def execBit_3_e (s : State) : Result := retire 0x15B (bitOpr .i3 (.reg .e) s)
/-- `BIT 3,H` (R260). -/
def execBit_3_h (s : State) : Result := retire 0x15C (bitOpr .i3 (.reg .h) s)
/-- `BIT 3,L` (R260). -/
def execBit_3_l (s : State) : Result := retire 0x15D (bitOpr .i3 (.reg .l) s)
/-- `BIT 3,(HL)` (R260). -/
def execBit_3_atHL (s : State) : Result := retire 0x15E (bitOpr .i3 .atHL s)
/-- `BIT 3,A` (R260). -/
def execBit_3_a (s : State) : Result := retire 0x15F (bitOpr .i3 (.reg .a) s)
/-- `BIT 4,B` (R260). -/
def execBit_4_b (s : State) : Result := retire 0x160 (bitOpr .i4 (.reg .b) s)
/-- `BIT 4,C` (R260). -/
def execBit_4_c (s : State) : Result := retire 0x161 (bitOpr .i4 (.reg .c) s)
/-- `BIT 4,D` (R260). -/
def execBit_4_d (s : State) : Result := retire 0x162 (bitOpr .i4 (.reg .d) s)
/-- `BIT 4,E` (R260). -/
def execBit_4_e (s : State) : Result := retire 0x163 (bitOpr .i4 (.reg .e) s)
/-- `BIT 4,H` (R260). -/
def execBit_4_h (s : State) : Result := retire 0x164 (bitOpr .i4 (.reg .h) s)
/-- `BIT 4,L` (R260). -/
def execBit_4_l (s : State) : Result := retire 0x165 (bitOpr .i4 (.reg .l) s)
/-- `BIT 4,(HL)` (R260). -/
def execBit_4_atHL (s : State) : Result := retire 0x166 (bitOpr .i4 .atHL s)
/-- `BIT 4,A` (R260). -/
def execBit_4_a (s : State) : Result := retire 0x167 (bitOpr .i4 (.reg .a) s)
/-- `BIT 5,B` (R260). -/
def execBit_5_b (s : State) : Result := retire 0x168 (bitOpr .i5 (.reg .b) s)
/-- `BIT 5,C` (R260). -/
def execBit_5_c (s : State) : Result := retire 0x169 (bitOpr .i5 (.reg .c) s)
/-- `BIT 5,D` (R260). -/
def execBit_5_d (s : State) : Result := retire 0x16A (bitOpr .i5 (.reg .d) s)
/-- `BIT 5,E` (R260). -/
def execBit_5_e (s : State) : Result := retire 0x16B (bitOpr .i5 (.reg .e) s)
/-- `BIT 5,H` (R260). -/
def execBit_5_h (s : State) : Result := retire 0x16C (bitOpr .i5 (.reg .h) s)
/-- `BIT 5,L` (R260). -/
def execBit_5_l (s : State) : Result := retire 0x16D (bitOpr .i5 (.reg .l) s)
/-- `BIT 5,(HL)` (R260). -/
def execBit_5_atHL (s : State) : Result := retire 0x16E (bitOpr .i5 .atHL s)
/-- `BIT 5,A` (R260). -/
def execBit_5_a (s : State) : Result := retire 0x16F (bitOpr .i5 (.reg .a) s)
/-- `BIT 6,B` (R260). -/
def execBit_6_b (s : State) : Result := retire 0x170 (bitOpr .i6 (.reg .b) s)
/-- `BIT 6,C` (R260). -/
def execBit_6_c (s : State) : Result := retire 0x171 (bitOpr .i6 (.reg .c) s)
/-- `BIT 6,D` (R260). -/
def execBit_6_d (s : State) : Result := retire 0x172 (bitOpr .i6 (.reg .d) s)
/-- `BIT 6,E` (R260). -/
def execBit_6_e (s : State) : Result := retire 0x173 (bitOpr .i6 (.reg .e) s)
/-- `BIT 6,H` (R260). -/
def execBit_6_h (s : State) : Result := retire 0x174 (bitOpr .i6 (.reg .h) s)
/-- `BIT 6,L` (R260). -/
def execBit_6_l (s : State) : Result := retire 0x175 (bitOpr .i6 (.reg .l) s)
/-- `BIT 6,(HL)` (R260). -/
def execBit_6_atHL (s : State) : Result := retire 0x176 (bitOpr .i6 .atHL s)
/-- `BIT 6,A` (R260). -/
def execBit_6_a (s : State) : Result := retire 0x177 (bitOpr .i6 (.reg .a) s)
/-- `BIT 7,B` (R260). -/
def execBit_7_b (s : State) : Result := retire 0x178 (bitOpr .i7 (.reg .b) s)
/-- `BIT 7,C` (R260). -/
def execBit_7_c (s : State) : Result := retire 0x179 (bitOpr .i7 (.reg .c) s)
/-- `BIT 7,D` (R260). -/
def execBit_7_d (s : State) : Result := retire 0x17A (bitOpr .i7 (.reg .d) s)
/-- `BIT 7,E` (R260). -/
def execBit_7_e (s : State) : Result := retire 0x17B (bitOpr .i7 (.reg .e) s)
/-- `BIT 7,H` (R260). -/
def execBit_7_h (s : State) : Result := retire 0x17C (bitOpr .i7 (.reg .h) s)
/-- `BIT 7,L` (R260). -/
def execBit_7_l (s : State) : Result := retire 0x17D (bitOpr .i7 (.reg .l) s)
/-- `BIT 7,(HL)` (R260). -/
def execBit_7_atHL (s : State) : Result := retire 0x17E (bitOpr .i7 .atHL s)
/-- `BIT 7,A` (R260). -/
def execBit_7_a (s : State) : Result := retire 0x17F (bitOpr .i7 (.reg .a) s)
/-- `RES 0,B` (R261). -/
def execRes_0_b (s : State) : Result := retire 0x180 (resOpr .i0 (.reg .b) s)
/-- `RES 0,C` (R261). -/
def execRes_0_c (s : State) : Result := retire 0x181 (resOpr .i0 (.reg .c) s)
/-- `RES 0,D` (R261). -/
def execRes_0_d (s : State) : Result := retire 0x182 (resOpr .i0 (.reg .d) s)
/-- `RES 0,E` (R261). -/
def execRes_0_e (s : State) : Result := retire 0x183 (resOpr .i0 (.reg .e) s)
/-- `RES 0,H` (R261). -/
def execRes_0_h (s : State) : Result := retire 0x184 (resOpr .i0 (.reg .h) s)
/-- `RES 0,L` (R261). -/
def execRes_0_l (s : State) : Result := retire 0x185 (resOpr .i0 (.reg .l) s)
/-- `RES 0,(HL)` (R261). -/
def execRes_0_atHL (s : State) : Result := retire 0x186 (resOpr .i0 .atHL s)
/-- `RES 0,A` (R261). -/
def execRes_0_a (s : State) : Result := retire 0x187 (resOpr .i0 (.reg .a) s)
/-- `RES 1,B` (R261). -/
def execRes_1_b (s : State) : Result := retire 0x188 (resOpr .i1 (.reg .b) s)
/-- `RES 1,C` (R261). -/
def execRes_1_c (s : State) : Result := retire 0x189 (resOpr .i1 (.reg .c) s)
/-- `RES 1,D` (R261). -/
def execRes_1_d (s : State) : Result := retire 0x18A (resOpr .i1 (.reg .d) s)
/-- `RES 1,E` (R261). -/
def execRes_1_e (s : State) : Result := retire 0x18B (resOpr .i1 (.reg .e) s)
/-- `RES 1,H` (R261). -/
def execRes_1_h (s : State) : Result := retire 0x18C (resOpr .i1 (.reg .h) s)
/-- `RES 1,L` (R261). -/
def execRes_1_l (s : State) : Result := retire 0x18D (resOpr .i1 (.reg .l) s)
/-- `RES 1,(HL)` (R261). -/
def execRes_1_atHL (s : State) : Result := retire 0x18E (resOpr .i1 .atHL s)
/-- `RES 1,A` (R261). -/
def execRes_1_a (s : State) : Result := retire 0x18F (resOpr .i1 (.reg .a) s)
/-- `RES 2,B` (R261). -/
def execRes_2_b (s : State) : Result := retire 0x190 (resOpr .i2 (.reg .b) s)
/-- `RES 2,C` (R261). -/
def execRes_2_c (s : State) : Result := retire 0x191 (resOpr .i2 (.reg .c) s)
/-- `RES 2,D` (R261). -/
def execRes_2_d (s : State) : Result := retire 0x192 (resOpr .i2 (.reg .d) s)
/-- `RES 2,E` (R261). -/
def execRes_2_e (s : State) : Result := retire 0x193 (resOpr .i2 (.reg .e) s)
/-- `RES 2,H` (R261). -/
def execRes_2_h (s : State) : Result := retire 0x194 (resOpr .i2 (.reg .h) s)
/-- `RES 2,L` (R261). -/
def execRes_2_l (s : State) : Result := retire 0x195 (resOpr .i2 (.reg .l) s)
/-- `RES 2,(HL)` (R261). -/
def execRes_2_atHL (s : State) : Result := retire 0x196 (resOpr .i2 .atHL s)
/-- `RES 2,A` (R261). -/
def execRes_2_a (s : State) : Result := retire 0x197 (resOpr .i2 (.reg .a) s)
/-- `RES 3,B` (R261). -/
def execRes_3_b (s : State) : Result := retire 0x198 (resOpr .i3 (.reg .b) s)
/-- `RES 3,C` (R261). -/
def execRes_3_c (s : State) : Result := retire 0x199 (resOpr .i3 (.reg .c) s)
/-- `RES 3,D` (R261). -/
def execRes_3_d (s : State) : Result := retire 0x19A (resOpr .i3 (.reg .d) s)
/-- `RES 3,E` (R261). -/
def execRes_3_e (s : State) : Result := retire 0x19B (resOpr .i3 (.reg .e) s)
/-- `RES 3,H` (R261). -/
def execRes_3_h (s : State) : Result := retire 0x19C (resOpr .i3 (.reg .h) s)
/-- `RES 3,L` (R261). -/
def execRes_3_l (s : State) : Result := retire 0x19D (resOpr .i3 (.reg .l) s)
/-- `RES 3,(HL)` (R261). -/
def execRes_3_atHL (s : State) : Result := retire 0x19E (resOpr .i3 .atHL s)
/-- `RES 3,A` (R261). -/
def execRes_3_a (s : State) : Result := retire 0x19F (resOpr .i3 (.reg .a) s)
/-- `RES 4,B` (R261). -/
def execRes_4_b (s : State) : Result := retire 0x1A0 (resOpr .i4 (.reg .b) s)
/-- `RES 4,C` (R261). -/
def execRes_4_c (s : State) : Result := retire 0x1A1 (resOpr .i4 (.reg .c) s)
/-- `RES 4,D` (R261). -/
def execRes_4_d (s : State) : Result := retire 0x1A2 (resOpr .i4 (.reg .d) s)
/-- `RES 4,E` (R261). -/
def execRes_4_e (s : State) : Result := retire 0x1A3 (resOpr .i4 (.reg .e) s)
/-- `RES 4,H` (R261). -/
def execRes_4_h (s : State) : Result := retire 0x1A4 (resOpr .i4 (.reg .h) s)
/-- `RES 4,L` (R261). -/
def execRes_4_l (s : State) : Result := retire 0x1A5 (resOpr .i4 (.reg .l) s)
/-- `RES 4,(HL)` (R261). -/
def execRes_4_atHL (s : State) : Result := retire 0x1A6 (resOpr .i4 .atHL s)
/-- `RES 4,A` (R261). -/
def execRes_4_a (s : State) : Result := retire 0x1A7 (resOpr .i4 (.reg .a) s)
/-- `RES 5,B` (R261). -/
def execRes_5_b (s : State) : Result := retire 0x1A8 (resOpr .i5 (.reg .b) s)
/-- `RES 5,C` (R261). -/
def execRes_5_c (s : State) : Result := retire 0x1A9 (resOpr .i5 (.reg .c) s)
/-- `RES 5,D` (R261). -/
def execRes_5_d (s : State) : Result := retire 0x1AA (resOpr .i5 (.reg .d) s)
/-- `RES 5,E` (R261). -/
def execRes_5_e (s : State) : Result := retire 0x1AB (resOpr .i5 (.reg .e) s)
/-- `RES 5,H` (R261). -/
def execRes_5_h (s : State) : Result := retire 0x1AC (resOpr .i5 (.reg .h) s)
/-- `RES 5,L` (R261). -/
def execRes_5_l (s : State) : Result := retire 0x1AD (resOpr .i5 (.reg .l) s)
/-- `RES 5,(HL)` (R261). -/
def execRes_5_atHL (s : State) : Result := retire 0x1AE (resOpr .i5 .atHL s)
/-- `RES 5,A` (R261). -/
def execRes_5_a (s : State) : Result := retire 0x1AF (resOpr .i5 (.reg .a) s)
/-- `RES 6,B` (R261). -/
def execRes_6_b (s : State) : Result := retire 0x1B0 (resOpr .i6 (.reg .b) s)
/-- `RES 6,C` (R261). -/
def execRes_6_c (s : State) : Result := retire 0x1B1 (resOpr .i6 (.reg .c) s)
/-- `RES 6,D` (R261). -/
def execRes_6_d (s : State) : Result := retire 0x1B2 (resOpr .i6 (.reg .d) s)
/-- `RES 6,E` (R261). -/
def execRes_6_e (s : State) : Result := retire 0x1B3 (resOpr .i6 (.reg .e) s)
/-- `RES 6,H` (R261). -/
def execRes_6_h (s : State) : Result := retire 0x1B4 (resOpr .i6 (.reg .h) s)
/-- `RES 6,L` (R261). -/
def execRes_6_l (s : State) : Result := retire 0x1B5 (resOpr .i6 (.reg .l) s)
/-- `RES 6,(HL)` (R261). -/
def execRes_6_atHL (s : State) : Result := retire 0x1B6 (resOpr .i6 .atHL s)
/-- `RES 6,A` (R261). -/
def execRes_6_a (s : State) : Result := retire 0x1B7 (resOpr .i6 (.reg .a) s)
/-- `RES 7,B` (R261). -/
def execRes_7_b (s : State) : Result := retire 0x1B8 (resOpr .i7 (.reg .b) s)
/-- `RES 7,C` (R261). -/
def execRes_7_c (s : State) : Result := retire 0x1B9 (resOpr .i7 (.reg .c) s)
/-- `RES 7,D` (R261). -/
def execRes_7_d (s : State) : Result := retire 0x1BA (resOpr .i7 (.reg .d) s)
/-- `RES 7,E` (R261). -/
def execRes_7_e (s : State) : Result := retire 0x1BB (resOpr .i7 (.reg .e) s)
/-- `RES 7,H` (R261). -/
def execRes_7_h (s : State) : Result := retire 0x1BC (resOpr .i7 (.reg .h) s)
/-- `RES 7,L` (R261). -/
def execRes_7_l (s : State) : Result := retire 0x1BD (resOpr .i7 (.reg .l) s)
/-- `RES 7,(HL)` (R261). -/
def execRes_7_atHL (s : State) : Result := retire 0x1BE (resOpr .i7 .atHL s)
/-- `RES 7,A` (R261). -/
def execRes_7_a (s : State) : Result := retire 0x1BF (resOpr .i7 (.reg .a) s)
/-- `SET 0,B` (R262). -/
def execSet_0_b (s : State) : Result := retire 0x1C0 (setOpr .i0 (.reg .b) s)
/-- `SET 0,C` (R262). -/
def execSet_0_c (s : State) : Result := retire 0x1C1 (setOpr .i0 (.reg .c) s)
/-- `SET 0,D` (R262). -/
def execSet_0_d (s : State) : Result := retire 0x1C2 (setOpr .i0 (.reg .d) s)
/-- `SET 0,E` (R262). -/
def execSet_0_e (s : State) : Result := retire 0x1C3 (setOpr .i0 (.reg .e) s)
/-- `SET 0,H` (R262). -/
def execSet_0_h (s : State) : Result := retire 0x1C4 (setOpr .i0 (.reg .h) s)
/-- `SET 0,L` (R262). -/
def execSet_0_l (s : State) : Result := retire 0x1C5 (setOpr .i0 (.reg .l) s)
/-- `SET 0,(HL)` (R262). -/
def execSet_0_atHL (s : State) : Result := retire 0x1C6 (setOpr .i0 .atHL s)
/-- `SET 0,A` (R262). -/
def execSet_0_a (s : State) : Result := retire 0x1C7 (setOpr .i0 (.reg .a) s)
/-- `SET 1,B` (R262). -/
def execSet_1_b (s : State) : Result := retire 0x1C8 (setOpr .i1 (.reg .b) s)
/-- `SET 1,C` (R262). -/
def execSet_1_c (s : State) : Result := retire 0x1C9 (setOpr .i1 (.reg .c) s)
/-- `SET 1,D` (R262). -/
def execSet_1_d (s : State) : Result := retire 0x1CA (setOpr .i1 (.reg .d) s)
/-- `SET 1,E` (R262). -/
def execSet_1_e (s : State) : Result := retire 0x1CB (setOpr .i1 (.reg .e) s)
/-- `SET 1,H` (R262). -/
def execSet_1_h (s : State) : Result := retire 0x1CC (setOpr .i1 (.reg .h) s)
/-- `SET 1,L` (R262). -/
def execSet_1_l (s : State) : Result := retire 0x1CD (setOpr .i1 (.reg .l) s)
/-- `SET 1,(HL)` (R262). -/
def execSet_1_atHL (s : State) : Result := retire 0x1CE (setOpr .i1 .atHL s)
/-- `SET 1,A` (R262). -/
def execSet_1_a (s : State) : Result := retire 0x1CF (setOpr .i1 (.reg .a) s)
/-- `SET 2,B` (R262). -/
def execSet_2_b (s : State) : Result := retire 0x1D0 (setOpr .i2 (.reg .b) s)
/-- `SET 2,C` (R262). -/
def execSet_2_c (s : State) : Result := retire 0x1D1 (setOpr .i2 (.reg .c) s)
/-- `SET 2,D` (R262). -/
def execSet_2_d (s : State) : Result := retire 0x1D2 (setOpr .i2 (.reg .d) s)
/-- `SET 2,E` (R262). -/
def execSet_2_e (s : State) : Result := retire 0x1D3 (setOpr .i2 (.reg .e) s)
/-- `SET 2,H` (R262). -/
def execSet_2_h (s : State) : Result := retire 0x1D4 (setOpr .i2 (.reg .h) s)
/-- `SET 2,L` (R262). -/
def execSet_2_l (s : State) : Result := retire 0x1D5 (setOpr .i2 (.reg .l) s)
/-- `SET 2,(HL)` (R262). -/
def execSet_2_atHL (s : State) : Result := retire 0x1D6 (setOpr .i2 .atHL s)
/-- `SET 2,A` (R262). -/
def execSet_2_a (s : State) : Result := retire 0x1D7 (setOpr .i2 (.reg .a) s)
/-- `SET 3,B` (R262). -/
def execSet_3_b (s : State) : Result := retire 0x1D8 (setOpr .i3 (.reg .b) s)
/-- `SET 3,C` (R262). -/
def execSet_3_c (s : State) : Result := retire 0x1D9 (setOpr .i3 (.reg .c) s)
/-- `SET 3,D` (R262). -/
def execSet_3_d (s : State) : Result := retire 0x1DA (setOpr .i3 (.reg .d) s)
/-- `SET 3,E` (R262). -/
def execSet_3_e (s : State) : Result := retire 0x1DB (setOpr .i3 (.reg .e) s)
/-- `SET 3,H` (R262). -/
def execSet_3_h (s : State) : Result := retire 0x1DC (setOpr .i3 (.reg .h) s)
/-- `SET 3,L` (R262). -/
def execSet_3_l (s : State) : Result := retire 0x1DD (setOpr .i3 (.reg .l) s)
/-- `SET 3,(HL)` (R262). -/
def execSet_3_atHL (s : State) : Result := retire 0x1DE (setOpr .i3 .atHL s)
/-- `SET 3,A` (R262). -/
def execSet_3_a (s : State) : Result := retire 0x1DF (setOpr .i3 (.reg .a) s)
/-- `SET 4,B` (R262). -/
def execSet_4_b (s : State) : Result := retire 0x1E0 (setOpr .i4 (.reg .b) s)
/-- `SET 4,C` (R262). -/
def execSet_4_c (s : State) : Result := retire 0x1E1 (setOpr .i4 (.reg .c) s)
/-- `SET 4,D` (R262). -/
def execSet_4_d (s : State) : Result := retire 0x1E2 (setOpr .i4 (.reg .d) s)
/-- `SET 4,E` (R262). -/
def execSet_4_e (s : State) : Result := retire 0x1E3 (setOpr .i4 (.reg .e) s)
/-- `SET 4,H` (R262). -/
def execSet_4_h (s : State) : Result := retire 0x1E4 (setOpr .i4 (.reg .h) s)
/-- `SET 4,L` (R262). -/
def execSet_4_l (s : State) : Result := retire 0x1E5 (setOpr .i4 (.reg .l) s)
/-- `SET 4,(HL)` (R262). -/
def execSet_4_atHL (s : State) : Result := retire 0x1E6 (setOpr .i4 .atHL s)
/-- `SET 4,A` (R262). -/
def execSet_4_a (s : State) : Result := retire 0x1E7 (setOpr .i4 (.reg .a) s)
/-- `SET 5,B` (R262). -/
def execSet_5_b (s : State) : Result := retire 0x1E8 (setOpr .i5 (.reg .b) s)
/-- `SET 5,C` (R262). -/
def execSet_5_c (s : State) : Result := retire 0x1E9 (setOpr .i5 (.reg .c) s)
/-- `SET 5,D` (R262). -/
def execSet_5_d (s : State) : Result := retire 0x1EA (setOpr .i5 (.reg .d) s)
/-- `SET 5,E` (R262). -/
def execSet_5_e (s : State) : Result := retire 0x1EB (setOpr .i5 (.reg .e) s)
/-- `SET 5,H` (R262). -/
def execSet_5_h (s : State) : Result := retire 0x1EC (setOpr .i5 (.reg .h) s)
/-- `SET 5,L` (R262). -/
def execSet_5_l (s : State) : Result := retire 0x1ED (setOpr .i5 (.reg .l) s)
/-- `SET 5,(HL)` (R262). -/
def execSet_5_atHL (s : State) : Result := retire 0x1EE (setOpr .i5 .atHL s)
/-- `SET 5,A` (R262). -/
def execSet_5_a (s : State) : Result := retire 0x1EF (setOpr .i5 (.reg .a) s)
/-- `SET 6,B` (R262). -/
def execSet_6_b (s : State) : Result := retire 0x1F0 (setOpr .i6 (.reg .b) s)
/-- `SET 6,C` (R262). -/
def execSet_6_c (s : State) : Result := retire 0x1F1 (setOpr .i6 (.reg .c) s)
/-- `SET 6,D` (R262). -/
def execSet_6_d (s : State) : Result := retire 0x1F2 (setOpr .i6 (.reg .d) s)
/-- `SET 6,E` (R262). -/
def execSet_6_e (s : State) : Result := retire 0x1F3 (setOpr .i6 (.reg .e) s)
/-- `SET 6,H` (R262). -/
def execSet_6_h (s : State) : Result := retire 0x1F4 (setOpr .i6 (.reg .h) s)
/-- `SET 6,L` (R262). -/
def execSet_6_l (s : State) : Result := retire 0x1F5 (setOpr .i6 (.reg .l) s)
/-- `SET 6,(HL)` (R262). -/
def execSet_6_atHL (s : State) : Result := retire 0x1F6 (setOpr .i6 .atHL s)
/-- `SET 6,A` (R262). -/
def execSet_6_a (s : State) : Result := retire 0x1F7 (setOpr .i6 (.reg .a) s)
/-- `SET 7,B` (R262). -/
def execSet_7_b (s : State) : Result := retire 0x1F8 (setOpr .i7 (.reg .b) s)
/-- `SET 7,C` (R262). -/
def execSet_7_c (s : State) : Result := retire 0x1F9 (setOpr .i7 (.reg .c) s)
/-- `SET 7,D` (R262). -/
def execSet_7_d (s : State) : Result := retire 0x1FA (setOpr .i7 (.reg .d) s)
/-- `SET 7,E` (R262). -/
def execSet_7_e (s : State) : Result := retire 0x1FB (setOpr .i7 (.reg .e) s)
/-- `SET 7,H` (R262). -/
def execSet_7_h (s : State) : Result := retire 0x1FC (setOpr .i7 (.reg .h) s)
/-- `SET 7,L` (R262). -/
def execSet_7_l (s : State) : Result := retire 0x1FD (setOpr .i7 (.reg .l) s)
/-- `SET 7,(HL)` (R262). -/
def execSet_7_atHL (s : State) : Result := retire 0x1FE (setOpr .i7 .atHL s)
/-- `SET 7,A` (R262). -/
def execSet_7_a (s : State) : Result := retire 0x1FF (setOpr .i7 (.reg .a) s)

end Sys2Proof.Machine
end

