-- ==== Sys2Proof/Machine/Control.lean ====
section
/-! DEFINITION. Control transfer (spec/45_control.md R270-R283). PC is pc_next when a meaning runs (R27). -/

namespace Sys2Proof.Machine

/-- A jump (R271, R272). -/
def jumpTo (t : Word) (s : State) : State := s.setPc t

/-- A relative jump, from pc_next (R274, R275). -/
def jumpRel (e : Byte) (s : State) : State := s.setPc (s.cpu.pc + sext16 e)

/-- A call (R276, R277, R283): pc_next is pushed. -/
def callTo (t : Word) (s : State) : State := (push16 s s.cpu.pc).setPc t

/-- A return (R278, R279). -/
def returnOp (s : State) : State := (pop16 s).setPc (stackWord s)

/-- A transfer that happens only on its condition (R270). -/
def onCond (taken : Bool) (f : State → State) (s : State) : State := if taken then f s else s

/-- The target of RST t (R127, R283). -/
def rstTarget (t : Idx8) : Word := BitVec.ofNat 16 (8 * t.val)

/-! ## The meanings -/

/-- `JP nn` (R271). -/
def execJp_nn (nn : Word) (s : State) : Result := retire 0xC3 (jumpTo nn s)
/-- `JP NZ,nn` (R272). -/
def execJp_nz_nn (nn : Word) (s : State) : Result := retireCond 0xC2 (s.cpu.cond .nz) (onCond (s.cpu.cond .nz) (jumpTo nn) s)
/-- `JP Z,nn` (R272). -/
def execJp_z_nn (nn : Word) (s : State) : Result := retireCond 0xCA (s.cpu.cond .z) (onCond (s.cpu.cond .z) (jumpTo nn) s)
/-- `JP NC,nn` (R272). -/
def execJp_nc_nn (nn : Word) (s : State) : Result := retireCond 0xD2 (s.cpu.cond .nc) (onCond (s.cpu.cond .nc) (jumpTo nn) s)
/-- `JP C,nn` (R272). -/
def execJp_c_nn (nn : Word) (s : State) : Result := retireCond 0xDA (s.cpu.cond .c) (onCond (s.cpu.cond .c) (jumpTo nn) s)
/-- `JP (HL)` (R273). -/
def execJp_atHL (s : State) : Result := retire 0xE9 (jumpTo s.cpu.hl s)
/-- `JR e` (R274). -/
def execJr_e (e : Byte) (s : State) : Result := retire 0x18 (jumpRel e s)
/-- `JR NZ,e` (R275). -/
def execJr_nz_e (e : Byte) (s : State) : Result := retireCond 0x20 (s.cpu.cond .nz) (onCond (s.cpu.cond .nz) (jumpRel e) s)
/-- `JR Z,e` (R275). -/
def execJr_z_e (e : Byte) (s : State) : Result := retireCond 0x28 (s.cpu.cond .z) (onCond (s.cpu.cond .z) (jumpRel e) s)
/-- `JR NC,e` (R275). -/
def execJr_nc_e (e : Byte) (s : State) : Result := retireCond 0x30 (s.cpu.cond .nc) (onCond (s.cpu.cond .nc) (jumpRel e) s)
/-- `JR C,e` (R275). -/
def execJr_c_e (e : Byte) (s : State) : Result := retireCond 0x38 (s.cpu.cond .c) (onCond (s.cpu.cond .c) (jumpRel e) s)
/-- `CALL nn` (R276). -/
def execCall_nn (nn : Word) (s : State) : Result := retire 0xCD (callTo nn s)
/-- `CALL NZ,nn` (R277). -/
def execCall_nz_nn (nn : Word) (s : State) : Result := retireCond 0xC4 (s.cpu.cond .nz) (onCond (s.cpu.cond .nz) (callTo nn) s)
/-- `CALL Z,nn` (R277). -/
def execCall_z_nn (nn : Word) (s : State) : Result := retireCond 0xCC (s.cpu.cond .z) (onCond (s.cpu.cond .z) (callTo nn) s)
/-- `CALL NC,nn` (R277). -/
def execCall_nc_nn (nn : Word) (s : State) : Result := retireCond 0xD4 (s.cpu.cond .nc) (onCond (s.cpu.cond .nc) (callTo nn) s)
/-- `CALL C,nn` (R277). -/
def execCall_c_nn (nn : Word) (s : State) : Result := retireCond 0xDC (s.cpu.cond .c) (onCond (s.cpu.cond .c) (callTo nn) s)
/-- `RET` (R278). -/
def execRet (s : State) : Result := retire 0xC9 (returnOp s)
/-- `RET NZ` (R279). -/
def execRet_nz (s : State) : Result := retireCond 0xC0 (s.cpu.cond .nz) (onCond (s.cpu.cond .nz) returnOp s)
/-- `RET Z` (R279). -/
def execRet_z (s : State) : Result := retireCond 0xC8 (s.cpu.cond .z) (onCond (s.cpu.cond .z) returnOp s)
/-- `RET NC` (R279). -/
def execRet_nc (s : State) : Result := retireCond 0xD0 (s.cpu.cond .nc) (onCond (s.cpu.cond .nc) returnOp s)
/-- `RET C` (R279). -/
def execRet_c (s : State) : Result := retireCond 0xD8 (s.cpu.cond .c) (onCond (s.cpu.cond .c) returnOp s)
/-- `RETI` (R282). -/
def execReti (s : State) : Result := retire 0xD9 (returnFromInterrupt s)
/-- `RST 0x00` (R283). -/
def execRst_00 (s : State) : Result := retire 0xC7 (callTo (rstTarget .i0) s)
/-- `RST 0x08` (R283). -/
def execRst_08 (s : State) : Result := retire 0xCF (callTo (rstTarget .i1) s)
/-- `RST 0x10` (R283). -/
def execRst_10 (s : State) : Result := retire 0xD7 (callTo (rstTarget .i2) s)
/-- `RST 0x18` (R283). -/
def execRst_18 (s : State) : Result := retire 0xDF (callTo (rstTarget .i3) s)
/-- `RST 0x20` (R283). -/
def execRst_20 (s : State) : Result := retire 0xE7 (callTo (rstTarget .i4) s)
/-- `RST 0x28` (R283). -/
def execRst_28 (s : State) : Result := retire 0xEF (callTo (rstTarget .i5) s)
/-- `RST 0x30` (R283). -/
def execRst_30 (s : State) : Result := retire 0xF7 (callTo (rstTarget .i6) s)
/-- `RST 0x38` (R283). -/
def execRst_38 (s : State) : Result := retire 0xFF (callTo (rstTarget .i7) s)

end Sys2Proof.Machine
end

