-- ==== Sys2Proof/Machine/LoadStore.lean ====
section
/-! DEFINITION. Loads, stores and stack (spec/40_load_store.md R150-R174). In a meaning the instruction's own bytes are fetched, so PC is pc_next (R27). -/

namespace Sys2Proof.Machine

/-- LD r,r' (R151). -/
def ldRegReg (dst src : Reg8) (s : State) : State := s.setReg dst (s.cpu.getReg src)

/-- LD r,n (R152). -/
def ldRegImm (dst : Reg8) (n : Byte) (s : State) : State := s.setReg dst n

/-- A register loaded from a memory address (R153, R156, R157, R160, R164, R166). -/
def loadReg (dst : Reg8) (a : Word) (s : State) : State := s.setReg dst (memRead s a)

/-- A register stored to a memory address (R154, R158, R159, R161, R165, R167). -/
def storeReg (r : Reg8) (a : Word) (s : State) : State := memWrite s a (s.cpu.getReg r)

/-- The high page: 0xFF00 + zext_16(n) (R164-R167). -/
def highPage (n : Byte) : Word := 0xFF00 + n.setWidth 16

/-- LD A,(HL±) (R170, R171): the load, then HL moves by `delta`. -/
def loadAStep (delta : Word) (s : State) : State := (loadReg .a s.cpu.hl s).setHL (s.cpu.hl + delta)

/-- LD (HL±),A (R172, R173): the store, then HL moves by `delta`. -/
def storeAStep (delta : Word) (s : State) : State := (storeReg .a s.cpu.hl s).setHL (s.cpu.hl + delta)

/-- POP qq (R168). -/
def popStk (q : Stk16) (s : State) : State :=
  let v := stackWord s
  let s1 := pop16 s
  s1.withCpu (s1.cpu.setStk q v)

/-- PUSH qq (R169). -/
def pushStk (q : Stk16) (s : State) : State := push16 s (s.cpu.getStk q)

/-! ## The meanings -/

/-- `LD B,B` (R151). -/
def execLd_b_b (s : State) : Result := retire 0x40 (ldRegReg .b .b s)
/-- `LD B,C` (R151). -/
def execLd_b_c (s : State) : Result := retire 0x41 (ldRegReg .b .c s)
/-- `LD B,D` (R151). -/
def execLd_b_d (s : State) : Result := retire 0x42 (ldRegReg .b .d s)
/-- `LD B,E` (R151). -/
def execLd_b_e (s : State) : Result := retire 0x43 (ldRegReg .b .e s)
/-- `LD B,H` (R151). -/
def execLd_b_h (s : State) : Result := retire 0x44 (ldRegReg .b .h s)
/-- `LD B,L` (R151). -/
def execLd_b_l (s : State) : Result := retire 0x45 (ldRegReg .b .l s)
/-- `LD B,A` (R151). -/
def execLd_b_a (s : State) : Result := retire 0x47 (ldRegReg .b .a s)
/-- `LD C,B` (R151). -/
def execLd_c_b (s : State) : Result := retire 0x48 (ldRegReg .c .b s)
/-- `LD C,C` (R151). -/
def execLd_c_c (s : State) : Result := retire 0x49 (ldRegReg .c .c s)
/-- `LD C,D` (R151). -/
def execLd_c_d (s : State) : Result := retire 0x4A (ldRegReg .c .d s)
/-- `LD C,E` (R151). -/
def execLd_c_e (s : State) : Result := retire 0x4B (ldRegReg .c .e s)
/-- `LD C,H` (R151). -/
def execLd_c_h (s : State) : Result := retire 0x4C (ldRegReg .c .h s)
/-- `LD C,L` (R151). -/
def execLd_c_l (s : State) : Result := retire 0x4D (ldRegReg .c .l s)
/-- `LD C,A` (R151). -/
def execLd_c_a (s : State) : Result := retire 0x4F (ldRegReg .c .a s)
/-- `LD D,B` (R151). -/
def execLd_d_b (s : State) : Result := retire 0x50 (ldRegReg .d .b s)
/-- `LD D,C` (R151). -/
def execLd_d_c (s : State) : Result := retire 0x51 (ldRegReg .d .c s)
/-- `LD D,D` (R151). -/
def execLd_d_d (s : State) : Result := retire 0x52 (ldRegReg .d .d s)
/-- `LD D,E` (R151). -/
def execLd_d_e (s : State) : Result := retire 0x53 (ldRegReg .d .e s)
/-- `LD D,H` (R151). -/
def execLd_d_h (s : State) : Result := retire 0x54 (ldRegReg .d .h s)
/-- `LD D,L` (R151). -/
def execLd_d_l (s : State) : Result := retire 0x55 (ldRegReg .d .l s)
/-- `LD D,A` (R151). -/
def execLd_d_a (s : State) : Result := retire 0x57 (ldRegReg .d .a s)
/-- `LD E,B` (R151). -/
def execLd_e_b (s : State) : Result := retire 0x58 (ldRegReg .e .b s)
/-- `LD E,C` (R151). -/
def execLd_e_c (s : State) : Result := retire 0x59 (ldRegReg .e .c s)
/-- `LD E,D` (R151). -/
def execLd_e_d (s : State) : Result := retire 0x5A (ldRegReg .e .d s)
/-- `LD E,E` (R151). -/
def execLd_e_e (s : State) : Result := retire 0x5B (ldRegReg .e .e s)
/-- `LD E,H` (R151). -/
def execLd_e_h (s : State) : Result := retire 0x5C (ldRegReg .e .h s)
/-- `LD E,L` (R151). -/
def execLd_e_l (s : State) : Result := retire 0x5D (ldRegReg .e .l s)
/-- `LD E,A` (R151). -/
def execLd_e_a (s : State) : Result := retire 0x5F (ldRegReg .e .a s)
/-- `LD H,B` (R151). -/
def execLd_h_b (s : State) : Result := retire 0x60 (ldRegReg .h .b s)
/-- `LD H,C` (R151). -/
def execLd_h_c (s : State) : Result := retire 0x61 (ldRegReg .h .c s)
/-- `LD H,D` (R151). -/
def execLd_h_d (s : State) : Result := retire 0x62 (ldRegReg .h .d s)
/-- `LD H,E` (R151). -/
def execLd_h_e (s : State) : Result := retire 0x63 (ldRegReg .h .e s)
/-- `LD H,H` (R151). -/
def execLd_h_h (s : State) : Result := retire 0x64 (ldRegReg .h .h s)
/-- `LD H,L` (R151). -/
def execLd_h_l (s : State) : Result := retire 0x65 (ldRegReg .h .l s)
/-- `LD H,A` (R151). -/
def execLd_h_a (s : State) : Result := retire 0x67 (ldRegReg .h .a s)
/-- `LD L,B` (R151). -/
def execLd_l_b (s : State) : Result := retire 0x68 (ldRegReg .l .b s)
/-- `LD L,C` (R151). -/
def execLd_l_c (s : State) : Result := retire 0x69 (ldRegReg .l .c s)
/-- `LD L,D` (R151). -/
def execLd_l_d (s : State) : Result := retire 0x6A (ldRegReg .l .d s)
/-- `LD L,E` (R151). -/
def execLd_l_e (s : State) : Result := retire 0x6B (ldRegReg .l .e s)
/-- `LD L,H` (R151). -/
def execLd_l_h (s : State) : Result := retire 0x6C (ldRegReg .l .h s)
/-- `LD L,L` (R151). -/
def execLd_l_l (s : State) : Result := retire 0x6D (ldRegReg .l .l s)
/-- `LD L,A` (R151). -/
def execLd_l_a (s : State) : Result := retire 0x6F (ldRegReg .l .a s)
/-- `LD A,B` (R151). -/
def execLd_a_b (s : State) : Result := retire 0x78 (ldRegReg .a .b s)
/-- `LD A,C` (R151). -/
def execLd_a_c (s : State) : Result := retire 0x79 (ldRegReg .a .c s)
/-- `LD A,D` (R151). -/
def execLd_a_d (s : State) : Result := retire 0x7A (ldRegReg .a .d s)
/-- `LD A,E` (R151). -/
def execLd_a_e (s : State) : Result := retire 0x7B (ldRegReg .a .e s)
/-- `LD A,H` (R151). -/
def execLd_a_h (s : State) : Result := retire 0x7C (ldRegReg .a .h s)
/-- `LD A,L` (R151). -/
def execLd_a_l (s : State) : Result := retire 0x7D (ldRegReg .a .l s)
/-- `LD A,A` (R151). -/
def execLd_a_a (s : State) : Result := retire 0x7F (ldRegReg .a .a s)
/-- `LD B,n` (R152). -/
def execLd_b_n (n : Byte) (s : State) : Result := retire 0x06 (ldRegImm .b n s)
/-- `LD C,n` (R152). -/
def execLd_c_n (n : Byte) (s : State) : Result := retire 0x0E (ldRegImm .c n s)
/-- `LD D,n` (R152). -/
def execLd_d_n (n : Byte) (s : State) : Result := retire 0x16 (ldRegImm .d n s)
/-- `LD E,n` (R152). -/
def execLd_e_n (n : Byte) (s : State) : Result := retire 0x1E (ldRegImm .e n s)
/-- `LD H,n` (R152). -/
def execLd_h_n (n : Byte) (s : State) : Result := retire 0x26 (ldRegImm .h n s)
/-- `LD L,n` (R152). -/
def execLd_l_n (n : Byte) (s : State) : Result := retire 0x2E (ldRegImm .l n s)
/-- `LD A,n` (R152). -/
def execLd_a_n (n : Byte) (s : State) : Result := retire 0x3E (ldRegImm .a n s)
/-- `LD B,(HL)` (R153). -/
def execLd_b_atHL (s : State) : Result := retire 0x46 (loadReg .b s.cpu.hl s)
/-- `LD C,(HL)` (R153). -/
def execLd_c_atHL (s : State) : Result := retire 0x4E (loadReg .c s.cpu.hl s)
/-- `LD D,(HL)` (R153). -/
def execLd_d_atHL (s : State) : Result := retire 0x56 (loadReg .d s.cpu.hl s)
/-- `LD E,(HL)` (R153). -/
def execLd_e_atHL (s : State) : Result := retire 0x5E (loadReg .e s.cpu.hl s)
/-- `LD H,(HL)` (R153). -/
def execLd_h_atHL (s : State) : Result := retire 0x66 (loadReg .h s.cpu.hl s)
/-- `LD L,(HL)` (R153). -/
def execLd_l_atHL (s : State) : Result := retire 0x6E (loadReg .l s.cpu.hl s)
/-- `LD A,(HL)` (R153). -/
def execLd_a_atHL (s : State) : Result := retire 0x7E (loadReg .a s.cpu.hl s)
/-- `LD (HL),B` (R154). -/
def execLd_atHL_b (s : State) : Result := retire 0x70 (storeReg .b s.cpu.hl s)
/-- `LD (HL),C` (R154). -/
def execLd_atHL_c (s : State) : Result := retire 0x71 (storeReg .c s.cpu.hl s)
/-- `LD (HL),D` (R154). -/
def execLd_atHL_d (s : State) : Result := retire 0x72 (storeReg .d s.cpu.hl s)
/-- `LD (HL),E` (R154). -/
def execLd_atHL_e (s : State) : Result := retire 0x73 (storeReg .e s.cpu.hl s)
/-- `LD (HL),H` (R154). -/
def execLd_atHL_h (s : State) : Result := retire 0x74 (storeReg .h s.cpu.hl s)
/-- `LD (HL),L` (R154). -/
def execLd_atHL_l (s : State) : Result := retire 0x75 (storeReg .l s.cpu.hl s)
/-- `LD (HL),A` (R154). -/
def execLd_atHL_a (s : State) : Result := retire 0x77 (storeReg .a s.cpu.hl s)
/-- `LD (HL),n` (R155). -/
def execLd_atHL_n (n : Byte) (s : State) : Result := retire 0x36 (memWrite s s.cpu.hl n)
/-- `LD A,(BC)` (R156). -/
def execLd_a_atBC (s : State) : Result := retire 0x0A (loadReg .a s.cpu.bc s)
/-- `LD A,(DE)` (R157). -/
def execLd_a_atDE (s : State) : Result := retire 0x1A (loadReg .a s.cpu.de s)
/-- `LD (BC),A` (R158). -/
def execLd_atBC_a (s : State) : Result := retire 0x02 (storeReg .a s.cpu.bc s)
/-- `LD (DE),A` (R159). -/
def execLd_atDE_a (s : State) : Result := retire 0x12 (storeReg .a s.cpu.de s)
/-- `LD A,(nn)` (R160). -/
def execLd_a_atnn (nn : Word) (s : State) : Result := retire 0xFA (loadReg .a nn s)
/-- `LD (nn),A` (R161). -/
def execLd_atnn_a (nn : Word) (s : State) : Result := retire 0xEA (storeReg .a nn s)
/-- `LD BC,nn` (R162). -/
def execLd_bc_nn (nn : Word) (s : State) : Result := retire 0x01 (s.setPair .bc nn)
/-- `LD DE,nn` (R162). -/
def execLd_de_nn (nn : Word) (s : State) : Result := retire 0x11 (s.setPair .de nn)
/-- `LD HL,nn` (R162). -/
def execLd_hl_nn (nn : Word) (s : State) : Result := retire 0x21 (s.setPair .hl nn)
/-- `LD SP,nn` (R162). -/
def execLd_sp_nn (nn : Word) (s : State) : Result := retire 0x31 (s.setPair .sp nn)
/-- `LD (nn),SP` (R163). -/
def execLd_atnn_sp (nn : Word) (s : State) : Result := retire 0x08 (memWrite16 s nn s.cpu.sp)
/-- `LDH A,(n)` (R164). -/
def execLdh_a_atn (n : Byte) (s : State) : Result := retire 0xF0 (loadReg .a (highPage n) s)
/-- `LDH (n),A` (R165). -/
def execLdh_atn_a (n : Byte) (s : State) : Result := retire 0xE0 (storeReg .a (highPage n) s)
/-- `LD A,(C)` (R166). -/
def execLd_a_atC (s : State) : Result := retire 0xF2 (loadReg .a (highPage s.cpu.c) s)
/-- `LD (C),A` (R167). -/
def execLd_atC_a (s : State) : Result := retire 0xE2 (storeReg .a (highPage s.cpu.c) s)
/-- `LD A,(HL+)` (R170). -/
def execLd_a_atHLi (s : State) : Result := retire 0x2A (loadAStep 1 s)
/-- `LD A,(HL-)` (R171). -/
def execLd_a_atHLd (s : State) : Result := retire 0x3A (loadAStep (-1) s)
/-- `LD (HL+),A` (R172). -/
def execLd_atHLi_a (s : State) : Result := retire 0x22 (storeAStep 1 s)
/-- `LD (HL-),A` (R173). -/
def execLd_atHLd_a (s : State) : Result := retire 0x32 (storeAStep (-1) s)
/-- `POP BC` (R168). -/
def execPop_bc (s : State) : Result := retire 0xC1 (popStk .bc s)
/-- `POP DE` (R168). -/
def execPop_de (s : State) : Result := retire 0xD1 (popStk .de s)
/-- `POP HL` (R168). -/
def execPop_hl (s : State) : Result := retire 0xE1 (popStk .hl s)
/-- `POP AF` (R168). -/
def execPop_af (s : State) : Result := retire 0xF1 (popStk .af s)
/-- `PUSH BC` (R169). -/
def execPush_bc (s : State) : Result := retire 0xC5 (pushStk .bc s)
/-- `PUSH DE` (R169). -/
def execPush_de (s : State) : Result := retire 0xD5 (pushStk .de s)
/-- `PUSH HL` (R169). -/
def execPush_hl (s : State) : Result := retire 0xE5 (pushStk .hl s)
/-- `PUSH AF` (R169). -/
def execPush_af (s : State) : Result := retire 0xF5 (pushStk .af s)
/-- `LD SP,HL` (R174). -/
def execLd_sp_hl (s : State) : Result := retire 0xF9 (s.setSp s.cpu.hl)

end Sys2Proof.Machine
end

