-- ==== Sys2Proof/Machine/RotateShift.lean ====
section
/-! DEFINITION. Rotates, shifts and SWAP (spec/43_rotate_shift.md R230-R242). -/

namespace Sys2Proof.Machine

/-- The accumulator rotates (R231-R234). -/
def accRotOpr (k : AccRot) (s : State) : State :=
  let r := rotResult (accRotOp k) s.cpu.a s.cpu.flagC
  (s.setReg .a r.1).setFlags (accRotFlags s.params.accRotateZ r.1 r.2)

/-- The CB rotates and shifts (R230, R235-R242). -/
def rotOpr (o : RotOp) (x : R8) (s : State) : State :=
  let r := rotResult o (s.readR8 x) s.cpu.flagC
  (s.writeR8 x r.1).setFlags (rotFlags r.1 r.2)

/-! ## The meanings -/

/-- `RLCA` (R231). -/
def execRlca (s : State) : Result := retire 0x07 (accRotOpr .rlca s)
/-- `RRCA` (R232). -/
def execRrca (s : State) : Result := retire 0x0F (accRotOpr .rrca s)
/-- `RLA` (R233). -/
def execRla (s : State) : Result := retire 0x17 (accRotOpr .rla s)
/-- `RRA` (R234). -/
def execRra (s : State) : Result := retire 0x1F (accRotOpr .rra s)
/-- `RLC B` (R235). -/
def execRlc_b (s : State) : Result := retire 0x100 (rotOpr .rlc (.reg .b) s)
/-- `RLC C` (R235). -/
def execRlc_c (s : State) : Result := retire 0x101 (rotOpr .rlc (.reg .c) s)
/-- `RLC D` (R235). -/
def execRlc_d (s : State) : Result := retire 0x102 (rotOpr .rlc (.reg .d) s)
/-- `RLC E` (R235). -/
def execRlc_e (s : State) : Result := retire 0x103 (rotOpr .rlc (.reg .e) s)
/-- `RLC H` (R235). -/
def execRlc_h (s : State) : Result := retire 0x104 (rotOpr .rlc (.reg .h) s)
/-- `RLC L` (R235). -/
def execRlc_l (s : State) : Result := retire 0x105 (rotOpr .rlc (.reg .l) s)
/-- `RLC (HL)` (R235). -/
def execRlc_atHL (s : State) : Result := retire 0x106 (rotOpr .rlc .atHL s)
/-- `RLC A` (R235). -/
def execRlc_a (s : State) : Result := retire 0x107 (rotOpr .rlc (.reg .a) s)
/-- `RRC B` (R236). -/
def execRrc_b (s : State) : Result := retire 0x108 (rotOpr .rrc (.reg .b) s)
/-- `RRC C` (R236). -/
def execRrc_c (s : State) : Result := retire 0x109 (rotOpr .rrc (.reg .c) s)
/-- `RRC D` (R236). -/
def execRrc_d (s : State) : Result := retire 0x10A (rotOpr .rrc (.reg .d) s)
/-- `RRC E` (R236). -/
def execRrc_e (s : State) : Result := retire 0x10B (rotOpr .rrc (.reg .e) s)
/-- `RRC H` (R236). -/
def execRrc_h (s : State) : Result := retire 0x10C (rotOpr .rrc (.reg .h) s)
/-- `RRC L` (R236). -/
def execRrc_l (s : State) : Result := retire 0x10D (rotOpr .rrc (.reg .l) s)
/-- `RRC (HL)` (R236). -/
def execRrc_atHL (s : State) : Result := retire 0x10E (rotOpr .rrc .atHL s)
/-- `RRC A` (R236). -/
def execRrc_a (s : State) : Result := retire 0x10F (rotOpr .rrc (.reg .a) s)
/-- `RL B` (R237). -/
def execRl_b (s : State) : Result := retire 0x110 (rotOpr .rl (.reg .b) s)
/-- `RL C` (R237). -/
def execRl_c (s : State) : Result := retire 0x111 (rotOpr .rl (.reg .c) s)
/-- `RL D` (R237). -/
def execRl_d (s : State) : Result := retire 0x112 (rotOpr .rl (.reg .d) s)
/-- `RL E` (R237). -/
def execRl_e (s : State) : Result := retire 0x113 (rotOpr .rl (.reg .e) s)
/-- `RL H` (R237). -/
def execRl_h (s : State) : Result := retire 0x114 (rotOpr .rl (.reg .h) s)
/-- `RL L` (R237). -/
def execRl_l (s : State) : Result := retire 0x115 (rotOpr .rl (.reg .l) s)
/-- `RL (HL)` (R237). -/
def execRl_atHL (s : State) : Result := retire 0x116 (rotOpr .rl .atHL s)
/-- `RL A` (R237). -/
def execRl_a (s : State) : Result := retire 0x117 (rotOpr .rl (.reg .a) s)
/-- `RR B` (R238). -/
def execRr_b (s : State) : Result := retire 0x118 (rotOpr .rr (.reg .b) s)
/-- `RR C` (R238). -/
def execRr_c (s : State) : Result := retire 0x119 (rotOpr .rr (.reg .c) s)
/-- `RR D` (R238). -/
def execRr_d (s : State) : Result := retire 0x11A (rotOpr .rr (.reg .d) s)
/-- `RR E` (R238). -/
def execRr_e (s : State) : Result := retire 0x11B (rotOpr .rr (.reg .e) s)
/-- `RR H` (R238). -/
def execRr_h (s : State) : Result := retire 0x11C (rotOpr .rr (.reg .h) s)
/-- `RR L` (R238). -/
def execRr_l (s : State) : Result := retire 0x11D (rotOpr .rr (.reg .l) s)
/-- `RR (HL)` (R238). -/
def execRr_atHL (s : State) : Result := retire 0x11E (rotOpr .rr .atHL s)
/-- `RR A` (R238). -/
def execRr_a (s : State) : Result := retire 0x11F (rotOpr .rr (.reg .a) s)
/-- `SLA B` (R239). -/
def execSla_b (s : State) : Result := retire 0x120 (rotOpr .sla (.reg .b) s)
/-- `SLA C` (R239). -/
def execSla_c (s : State) : Result := retire 0x121 (rotOpr .sla (.reg .c) s)
/-- `SLA D` (R239). -/
def execSla_d (s : State) : Result := retire 0x122 (rotOpr .sla (.reg .d) s)
/-- `SLA E` (R239). -/
def execSla_e (s : State) : Result := retire 0x123 (rotOpr .sla (.reg .e) s)
/-- `SLA H` (R239). -/
def execSla_h (s : State) : Result := retire 0x124 (rotOpr .sla (.reg .h) s)
/-- `SLA L` (R239). -/
def execSla_l (s : State) : Result := retire 0x125 (rotOpr .sla (.reg .l) s)
/-- `SLA (HL)` (R239). -/
def execSla_atHL (s : State) : Result := retire 0x126 (rotOpr .sla .atHL s)
/-- `SLA A` (R239). -/
def execSla_a (s : State) : Result := retire 0x127 (rotOpr .sla (.reg .a) s)
/-- `SRA B` (R240). -/
def execSra_b (s : State) : Result := retire 0x128 (rotOpr .sra (.reg .b) s)
/-- `SRA C` (R240). -/
def execSra_c (s : State) : Result := retire 0x129 (rotOpr .sra (.reg .c) s)
/-- `SRA D` (R240). -/
def execSra_d (s : State) : Result := retire 0x12A (rotOpr .sra (.reg .d) s)
/-- `SRA E` (R240). -/
def execSra_e (s : State) : Result := retire 0x12B (rotOpr .sra (.reg .e) s)
/-- `SRA H` (R240). -/
def execSra_h (s : State) : Result := retire 0x12C (rotOpr .sra (.reg .h) s)
/-- `SRA L` (R240). -/
def execSra_l (s : State) : Result := retire 0x12D (rotOpr .sra (.reg .l) s)
/-- `SRA (HL)` (R240). -/
def execSra_atHL (s : State) : Result := retire 0x12E (rotOpr .sra .atHL s)
/-- `SRA A` (R240). -/
def execSra_a (s : State) : Result := retire 0x12F (rotOpr .sra (.reg .a) s)
/-- `SWAP B` (R241). -/
def execSwap_b (s : State) : Result := retire 0x130 (rotOpr .swap (.reg .b) s)
/-- `SWAP C` (R241). -/
def execSwap_c (s : State) : Result := retire 0x131 (rotOpr .swap (.reg .c) s)
/-- `SWAP D` (R241). -/
def execSwap_d (s : State) : Result := retire 0x132 (rotOpr .swap (.reg .d) s)
/-- `SWAP E` (R241). -/
def execSwap_e (s : State) : Result := retire 0x133 (rotOpr .swap (.reg .e) s)
/-- `SWAP H` (R241). -/
def execSwap_h (s : State) : Result := retire 0x134 (rotOpr .swap (.reg .h) s)
/-- `SWAP L` (R241). -/
def execSwap_l (s : State) : Result := retire 0x135 (rotOpr .swap (.reg .l) s)
/-- `SWAP (HL)` (R241). -/
def execSwap_atHL (s : State) : Result := retire 0x136 (rotOpr .swap .atHL s)
/-- `SWAP A` (R241). -/
def execSwap_a (s : State) : Result := retire 0x137 (rotOpr .swap (.reg .a) s)
/-- `SRL B` (R242). -/
def execSrl_b (s : State) : Result := retire 0x138 (rotOpr .srl (.reg .b) s)
/-- `SRL C` (R242). -/
def execSrl_c (s : State) : Result := retire 0x139 (rotOpr .srl (.reg .c) s)
/-- `SRL D` (R242). -/
def execSrl_d (s : State) : Result := retire 0x13A (rotOpr .srl (.reg .d) s)
/-- `SRL E` (R242). -/
def execSrl_e (s : State) : Result := retire 0x13B (rotOpr .srl (.reg .e) s)
/-- `SRL H` (R242). -/
def execSrl_h (s : State) : Result := retire 0x13C (rotOpr .srl (.reg .h) s)
/-- `SRL L` (R242). -/
def execSrl_l (s : State) : Result := retire 0x13D (rotOpr .srl (.reg .l) s)
/-- `SRL (HL)` (R242). -/
def execSrl_atHL (s : State) : Result := retire 0x13E (rotOpr .srl .atHL s)
/-- `SRL A` (R242). -/
def execSrl_a (s : State) : Result := retire 0x13F (rotOpr .srl (.reg .a) s)

end Sys2Proof.Machine
end

