-- ==== Sys2Proof/Machine/SystemInstr.lean ====
section
/-! DEFINITION. System and control instructions (spec/46_system.md R290-R296). -/

namespace Sys2Proof.Machine

/-- HALT (R291). -/
def haltOp (s : State) : State := s.withCpu { s.cpu with halted := true }

/-- STOP (R292). -/
def stopOp (s : State) : State := s.withCpu { s.cpu with stopped := true }

/-- The r8 operand of a code (R122). -/
def r8OfCode (r : BitVec 3) : R8 :=
  if r = 0 then .reg .b else if r = 1 then .reg .c else if r = 2 then .reg .d else if r = 3 then .reg .e
  else if r = 4 then .reg .h else if r = 5 then .reg .l else if r = 6 then .atHL else .reg .a

/-- The rotate/shift operation of a code (R126). -/
def rotOfCode (o : BitVec 3) : RotOp :=
  if o = 0 then .rlc else if o = 1 then .rrc else if o = 2 then .rl else if o = 3 then .rr
  else if o = 4 then .sla else if o = 5 then .sra else if o = 6 then .swap else .srl

/-- The 3-bit number field of a code (R127). -/
def idxOfCode (b : BitVec 3) : Idx8 :=
  if b = 0 then .i0 else if b = 1 then .i1 else if b = 2 then .i2 else if b = 3 then .i3
  else if b = 4 then .i4 else if b = 5 then .i5 else if b = 6 then .i6 else .i7

/-- `execute extended[b1]` (R295), by the fields of the second byte (R121). -/
def extendedOp (b1 : Byte) (s : State) : State :=
  let x := b1.extractLsb' 6 2
  let y := b1.extractLsb' 3 3
  let r := r8OfCode (b1.extractLsb' 0 3)
  if x = 0 then rotOpr (rotOfCode y) r s
  else if x = 1 then bitOpr (idxOfCode y) r s
  else if x = 2 then resOpr (idxOfCode y) r s
  else setOpr (idxOfCode y) r s

/-! ## The meanings -/

/-- `NOP` (R290). -/
def execNop (s : State) : Result := retire 0x00 (s)
/-- `HALT` (R291). -/
def execHalt (s : State) : Result := retire 0x76 (haltOp s)
/-- `STOP` (R292). -/
def execStop (s : State) : Result := retire 0x10 (stopOp s)
/-- `DI` (R293). -/
def execDi (s : State) : Result := retire 0xF3 (s.setIme false)
/-- `EI` (R294). -/
def execEi (s : State) : Result := retire 0xFB (s.setIme true)
/-- `PREFIX CB` (R295): the second byte is fetched here, and the extended opcode's cost is the whole cost. -/
def execPrefix_cb (s : State) : Result :=
  let b1 := fetchByte s
  retire (0x100 + b1.toNat) (extendedOp b1 (advancePc s))
/-- The illegal opcode 0xD3 (R296). -/
def execIllegal_d3 (s : State) : Result := .next (raiseDecodeError 0xD3 s)
/-- The illegal opcode 0xDB (R296). -/
def execIllegal_db (s : State) : Result := .next (raiseDecodeError 0xDB s)
/-- The illegal opcode 0xDD (R296). -/
def execIllegal_dd (s : State) : Result := .next (raiseDecodeError 0xDD s)
/-- The illegal opcode 0xE3 (R296). -/
def execIllegal_e3 (s : State) : Result := .next (raiseDecodeError 0xE3 s)
/-- The illegal opcode 0xE4 (R296). -/
def execIllegal_e4 (s : State) : Result := .next (raiseDecodeError 0xE4 s)
/-- The illegal opcode 0xEB (R296). -/
def execIllegal_eb (s : State) : Result := .next (raiseDecodeError 0xEB s)
/-- The illegal opcode 0xEC (R296). -/
def execIllegal_ec (s : State) : Result := .next (raiseDecodeError 0xEC s)
/-- The illegal opcode 0xED (R296). -/
def execIllegal_ed (s : State) : Result := .next (raiseDecodeError 0xED s)
/-- The illegal opcode 0xF4 (R296). -/
def execIllegal_f4 (s : State) : Result := .next (raiseDecodeError 0xF4 s)
/-- The illegal opcode 0xFC (R296). -/
def execIllegal_fc (s : State) : Result := .next (raiseDecodeError 0xFC s)
/-- The illegal opcode 0xFD (R296). -/
def execIllegal_fd (s : State) : Result := .next (raiseDecodeError 0xFD s)

end Sys2Proof.Machine
end

