-- ==== Sys2Proof/WellFormed.lean ====
section
/-! DEFINITION. Which instruction terms stand for a complete instruction. -/

namespace Sys2Proof

/-- A well-formed instruction is one the decoder can read from a complete instruction. The bare prefix is not: `0xCB` is
"never an instruction by itself" (spec/30_encoding.md R121). Operands need no check, since every value of a `Byte` or `Word`
operand is encodable (R128). -/
abbrev WellFormed (i : Instr) : Prop := i ≠ Instr.prefix_cb

end Sys2Proof
end

