-- ==== Sys2Proof/Machine/Timer.lean ====
section
/-! DEFINITION. The interval timer (spec/60_exceptions.md R340-R344). -/

namespace Sys2Proof.Machine

/-- The threshold of a TAC selector, in ticks (R342). -/
def timaThreshold (sel : BitVec 2) : Nat :=
  if sel = 0 then 64 else if sel = 1 then 1 else if sel = 2 then 4 else 16

/-- TimaIncrement (R343): 0xFF reloads from TMA and requests the Timer interrupt. -/
def timaIncrement (s : State) : State :=
  if s.timer.tima = 0xFF then requestIrq .timer { s with timer := { s.timer with tima := s.timer.tma } }
  else { s with timer := { s.timer with tima := s.timer.tima + 1 } }

/-- TimaStep (R342): counting only while TAC[2] is set. -/
def timaStep (s : State) : State :=
  if s.timer.tac.getLsbD 2 then
    let n := s.timer.tacc + 1
    if timaThreshold (s.timer.tac.setWidth 2) ≤ n then timaIncrement { s with timer := { s.timer with tacc := 0 } }
    else { s with timer := { s.timer with tacc := n } }
  else s

/-- The DIV part of TimerTick (R341). -/
def divStep (u : Timer) : Timer :=
  if u.dsub + 1 = 16 then { u with dsub := 0, div := u.div + 1 } else { u with dsub := u.dsub + 1 }

/-- TimerTick (R341). -/
def timerTick (s : State) : State := timaStep { s with timer := divStep s.timer }

/-- One t-cycle of TimerAdvance (R340): P_TIMER_TICK_T t-cycles make a tick. -/
def timerCycle (s : State) : State :=
  if s.timer.tsub + 1 = s.params.timerTick then timerTick { s with timer := { s.timer with tsub := 0 } }
  else { s with timer := { s.timer with tsub := s.timer.tsub + 1 } }

/-- TimerAdvance (R340). -/
def timerAdvance : Nat → State → State
  | 0, s => s
  | t + 1, s => timerAdvance t (timerCycle s)

end Sys2Proof.Machine
end

