-- ==== Sys2Proof/Machine/Video.lean ====
section
/-! DEFINITION. The video unit: the scanline state machine (spec/60_exceptions.md R350-R357) and the compositor (R360-R366). -/

namespace Sys2Proof.Machine

/-! ## The compositor -/

/-- The VRAM byte at a bus address 0x8000-0x9FFF. -/
def vramAt (vram : Memory) (a : Nat) : Byte := Memory.get vram (a - 0x8000)

/-- The color index of row `r`, column `c` of the tile at bus address `ta` (R362). -/
def tilePixel (vram : Memory) (ta r c : Nat) : BitVec 2 :=
  BitVec.ofBool ((vramAt vram (ta + 2 * r + 1)).getLsbD (7 - c)) ++ BitVec.ofBool ((vramAt vram (ta + 2 * r)).getLsbD (7 - c))

/-- TileAddr (R362): LCDC[4] selects unsigned indices from 0x8000 or signed ones from 0x9000. -/
def tileAddr (lcdc : Byte) (t : Byte) : Nat :=
  if lcdc.getLsbD 4 then 0x8000 + 16 * t.toNat else ((0x9000 : Int) + 16 * t.toInt).toNat

/-- The base of a tile map (R362). -/
def mapBase (sel : Bool) : Nat := if sel then 0x9C00 else 0x9800

/-- The color index at (px, py) of the 256×256 plane of a tile map (R363, R364). -/
def mapPixel (lcdc : Byte) (vram : Memory) (base px py : Nat) : BitVec 2 :=
  let t := vramAt vram (base + 32 * (py / 8) + px / 8)
  tilePixel vram (tileAddr lcdc t) (py % 8) (px % 8)

/-- The RGBA value of a shade (R37, P_SHADES). -/
def shadeRgba (sh : Config.Shades) (i : BitVec 2) : Config.Rgba :=
  if i = 0 then sh.s0 else if i = 1 then sh.s1 else if i = 2 then sh.s2 else sh.s3

/-- Shade(P, ci) (R366). -/
def shade (sh : Config.Shades) (pal : Byte) (ci : BitVec 2) : Config.Rgba :=
  shadeRgba sh (pal.extractLsb' (2 * ci.toNat) 2)

/-- The pixel of a frame at row y, column x (R367). -/
def Frame.pixel (sh : Config.Shades) (fb : Frame) (y x : Nat) : Config.Rgba := Sparse.get sh.s0 fb (160 * y + x)

/-- The frame with the pixel at row y, column x written. -/
def Frame.put (sh : Config.Shades) (fb : Frame) (y x : Nat) (p : Config.Rgba) : Frame := Sparse.set sh.s0 fb (160 * y + x) p

/-- A pixel of row y written together with its background index. -/
def putIndexed (sh : Config.Shades) (y : Nat) (u : Video) (x : Nat) (ci : BitVec 2) (p : Config.Rgba) : Video :=
  { u with bgidx := Sparse.set 0 u.bgidx x ci, fbWork := Frame.put sh u.fbWork y x p }

/-- One column of the background pass (R363). -/
def backgroundPixel (sh : Config.Shades) (vram : Memory) (y : Nat) (u : Video) (x : Nat) : Video :=
  if u.lcdc.getLsbD 0 then
    let px := (x + u.scx.toNat) % 256
    let py := (y + u.scy.toNat) % 256
    let ci := mapPixel u.lcdc vram (mapBase (u.lcdc.getLsbD 3)) px py
    putIndexed sh y u x ci (shade sh u.bgp ci)
  else putIndexed sh y u x 0 sh.s0

/-- The background pass for row y (R363). -/
def backgroundPass (sh : Config.Shades) (vram : Memory) (y : Nat) (u : Video) : Video :=
  (List.range 160).foldl (backgroundPixel sh vram y) u

/-- One column of the window pass (R364): columns x ≥ WX - 7, on integers. -/
def windowPixel (sh : Config.Shades) (vram : Memory) (y : Nat) (u : Video) (x : Nat) : Video :=
  if u.wx.toNat ≤ x + 7 then
    let ci := mapPixel u.lcdc vram (mapBase (u.lcdc.getLsbD 6)) (x + 7 - u.wx.toNat) (y - u.wy.toNat)
    putIndexed sh y u x ci (shade sh u.bgp ci)
  else u

/-- The window pass for row y (R364): gated by LCDC[5] alone, once y ≥ WY. -/
def windowPass (sh : Config.Shades) (vram : Memory) (y : Nat) (u : Video) : Video :=
  if u.lcdc.getLsbD 5 ∧ u.wy.toNat ≤ y then (List.range 160).foldl (windowPixel sh vram y) u else u

/-- One column of a sprite (R365): drawn inside the screen, where its index is not 0 and the priority bit allows. -/
def spritePixel (sh : Config.Shades) (vram : Memory) (y ta row : Nat) (sx : Int) (fl : Byte) (u : Video) (col : Nat) : Video :=
  let X : Int := sx + col
  if 0 ≤ X ∧ X < 160 then
    let c := if fl.getLsbD 5 then 7 - col else col
    let ci := tilePixel vram ta (row % 8) c
    if ci ≠ 0 ∧ (fl.getLsbD 7 = false ∨ Sparse.get 0 u.bgidx X.toNat = 0) then
      { u with fbWork := Frame.put sh u.fbWork y X.toNat (shade sh (if fl.getLsbD 4 then u.obp1 else u.obp0) ci) }
    else u
  else u

/-- The height of sprites (R365). -/
def spriteHeight (lcdc : Byte) : Nat := if lcdc.getLsbD 2 then 16 else 8

/-- One OAM entry on row y (R365). -/
def spriteEntry (sh : Config.Shades) (vram oam : Memory) (y : Nat) (u : Video) (i : Nat) : Video :=
  let h := spriteHeight u.lcdc
  let sy : Int := (Memory.get oam (4 * i)).toNat - 16
  let sx : Int := (Memory.get oam (4 * i + 1)).toNat - 8
  let t := Memory.get oam (4 * i + 2)
  let fl := Memory.get oam (4 * i + 3)
  if sy ≤ y ∧ (y : Int) < sy + h then
    let row0 := ((y : Int) - sy).toNat
    let row := if fl.getLsbD 6 then h - 1 - row0 else row0
    let tile := if h = 16 then t &&& 0xFE else t
    let ta := 0x8000 + 16 * tile.toNat + (if 8 ≤ row then 16 else 0)
    (List.range 8).foldl (spritePixel sh vram y ta row sx fl) u
  else u

/-- The sprite pass for row y (R365): the 40 entries in ascending order, a later one over an earlier one. -/
def spritePass (sh : Config.Shades) (vram oam : Memory) (y : Nat) (u : Video) : Video :=
  if u.lcdc.getLsbD 1 then (List.range 40).foldl (spriteEntry sh vram oam y) u else u

/-- RenderLine(y) (R360): background, window, sprites, with the memories and registers of this moment. -/
def renderLine (sh : Config.Shades) (vram oam : Memory) (y : Nat) (u : Video) : Video :=
  spritePass sh vram oam y (windowPass sh vram y (backgroundPass sh vram y u))

/-! ## The scanline state machine -/

/-- STAT[n] of R354 and R356: bit n of the value a read returns. -/
def statBit (u : Video) (n : Nat) : Bool := (statRead u).getLsbD n

/-- A state with its video unit replaced. -/
def State.withVideo (s : State) (u : Video) : State := { s with video := u }

/-- EnterVBlank (R354): the requests, the finished frame, and an interrupt pass at once. -/
def enterVBlank (s : State) : State :=
  let s1 := requestIrq .vblank s
  let s2 := if statBit s1.video 4 then requestIrq .lcdStat s1 else s1
  let s3 := s2.withVideo { s2.video with fbOut := s2.video.fbWork }
  evaluate s3

/-- VideoCycle (R351), by the mode, after the clock has advanced. -/
def videoTransition (s : State) : State :=
  let u := s.video
  match u.mode with
  | .oamScan => if u.vclock = 80 then s.withVideo { u with vclock := 0, mode := .drawing } else s
  | .drawing =>
    if u.vclock = 172 then
      s.withVideo (renderLine s.params.shades s.bus.vram s.bus.oam u.ly.toNat { u with vclock := 0, mode := .hblank })
    else s
  | .hblank =>
    if u.vclock = 204 then
      let ly := u.ly + 1
      if ly = 144 then enterVBlank (s.withVideo { u with vclock := 0, ly := ly, mode := .vblank })
      else s.withVideo { u with vclock := 0, ly := ly, mode := .oamScan }
    else s
  | .vblank =>
    if u.vclock = 456 then
      let ly := u.ly + 1
      if ly = 154 then s.withVideo { u with vclock := 0, ly := 0, mode := .oamScan }
      else s.withVideo { u with vclock := 0, ly := ly }
    else s

/-- One video t-cycle (R351). -/
def videoCycle (s : State) : State :=
  videoTransition (s.withVideo { s.video with vclock := s.video.vclock + 1 })

/-- `t` video t-cycles. -/
def videoCycles : Nat → State → State
  | 0, s => s
  | t + 1, s => videoCycles t (videoCycle s)

/-- The LY=LYC compare (R356). -/
def compareLy (s : State) : State :=
  if s.video.ly = s.video.lyc then
    let s1 := s.withVideo { s.video with coinc := true }
    if statBit s1.video 6 then requestIrq .lcdStat s1 else s1
  else s.withVideo { s.video with coinc := false }

/-- VideoAdvance (R350): nothing while the display is disabled; otherwise `t` cycles, then one compare. -/
def videoAdvance (t : Nat) (s : State) : State :=
  if s.video.lcdc.getLsbD 7 then compareLy (videoCycles t s) else s

end Sys2Proof.Machine
end

