-- ==== Sys2Proof/Machine/System.lean ====
section
/-! DEFINITION. The parts of the System step (spec/60_exceptions.md R380-R384): fetching and decoding the instruction at PC, and
what follows the instruction (the peripherals, the interrupt pass, the dispatch cycles). -/

namespace Sys2Proof.Machine

/-- The `n` bytes at an address, read through the bus; addresses wrap (R12, R27). -/
def bytesAt (s : State) (a : Word) (n : Nat) : List Byte := (List.range n).map (fun k => memRead s (a + BitVec.ofNat 16 k))

/-- The instruction at PC (R129): the opcode byte, then the bytes it asks for, each read through the bus. -/
def fetchInstr (s : State) : Instr :=
  decodeWith (memRead s s.cpu.pc) (fun k => memRead s (s.cpu.pc + 1 + BitVec.ofNat 16 k))

/-- The length of the instruction at PC (R120, R292). -/
def fetchLength (s : State) : Nat := instrLength s.params.stopLen (memRead s s.cpu.pc)

/-- The state in which an instruction is executed: its bytes are fetched, so PC is pc_next (R27), and no dispatch has been
charged in this step (R380). -/
def fetched (s : State) : State := s.setPc (s.cpu.pc + BitVec.ofNat 16 (fetchLength s))

/-- The start of a step (R380): `dispatch_t <- 0`. -/
def beginStep (s : State) : State := { s with sys := { s.sys with dispatchT := 0 } }

/-- The peripherals advance by `t` (R380): video, then timer. -/
def advancePeripherals (t : Nat) (s : State) : State := timerAdvance t (videoAdvance t s)

/-- The rest of a step after an instruction or a halted idle of `t` t-cycles (R380, R382). -/
def finishStep (t : Nat) (s : State) : State :=
  let s1 := evaluate (advancePeripherals t s)
  let s2 := if 0 < s1.sys.dispatchT then advancePeripherals s1.sys.dispatchT s1 else s1
  { s2 with sys := { s2.sys with stepT := t + s2.sys.dispatchT } }

/-- A halted step (R381): nothing is fetched and 4 t pass. -/
def haltedStep (s : State) : State := finishStep 4 s

/-- The end of a step whose instruction answered a next state: nothing more if it raised the FatalDecodeError (R310, R380). -/
def afterInstr (s : State) : State :=
  match s.sys.fault with
  | some _ => s
  | none => finishStep s.sys.cycles s

end Sys2Proof.Machine
end

