-- ==== Sys2Proof/Machine/Step.lean ====
section
/-! DEFINITION. One System step (spec/60_exceptions.md R380), with its three outcomes, and placing a program's first word. -/

namespace Sys2Proof.Machine

/-- `Step()` (R380). With no cartridge it is refused (R402); on a faulted or a stopped machine no step is made (R310, R384). -/
def step (s : State) : Host.Outcome State Fault Refusal :=
  match s.cart.image with
  | none => .refused .noCartridge
  | some _ =>
    match s.sys.fault with
    | some e => .fault (.fatalDecodeError e.opcode e.pc)
    | none =>
      if s.cpu.stopped then .fault .stopped
      else if s.cpu.halted then .next (haltedStep (beginStep s))
      else
        match exec (fetchInstr (beginStep s)) (fetched (beginStep s)) with
        | .next t => .next (afterInstr t)
        | .fault e => .fault e
        | .refused r => .refused r

/-- `s` with the instruction of a table word as its next one (assumption 10): where no cartridge is loaded, a 32 KiB image of type 0
is; `fault`, `stopped` and `halted` are cleared, so that the next step fetches; and the word's bytes stand at PC. -/
def State.withFetchWord (s : State) (nbits w : Nat) : State :=
  let image := match s.cart.image with
    | none => some { size := 0x8000, bytes := [] }
    | some im => some im
  let s1 : State := { s with
    cart := { s.cart with image := image }
    cpu := { s.cpu with halted := false, stopped := false }
    sys := { s.sys with fault := none } }
  match tableBytes nbits w with
  | [b0, b1, b2] => placeByte (placeByte (placeByte s1 s1.cpu.pc b0) (s1.cpu.pc + 1) b1) (s1.cpu.pc + 2) b2
  | _ => s1

end Sys2Proof.Machine
end

