-- ==== Sys2Proof/Machine/HostCalls.lean ====
section
/-! DEFINITION. The host interface (spec/60_exceptions.md R371-R372, R384-R397; spec/70_reset_and_hazards.md R400-R404): the calls
a host may make between steps. A single step (R399) is `step` itself. R386 freezes a faulted machine until reset(), and R371, R390,
R395 and R397 give their calls an effect without exception: that these calls have it on a faulted machine too is the model's choice
(DESIGN CHOICE, assumption 28). -/

namespace Sys2Proof.Machine

/-! ## reset() -/

/-- The n-th byte a BootRom reset draws (U8). -/
def drawByte (n : Nat) : Byte := (Config.bootDraw n).setWidth 8

/-- The P_RESET_IO items of a BootRom reset, drawn from number `n` on (R50, R400). -/
def drawResetIo (n : Nat) : Config.ResetIo :=
  { ime := false, ifl := (Config.bootDraw n).setWidth 5, ie := (Config.bootDraw (n + 1)).setWidth 5, lcdc := drawByte (n + 2),
    statw := (Config.bootDraw (n + 3)).setWidth 4, scy := drawByte (n + 4), scx := drawByte (n + 5), lyc := drawByte (n + 6),
    wy := drawByte (n + 7), wx := drawByte (n + 8), bgp := drawByte (n + 9), obp0 := drawByte (n + 10), obp1 := drawByte (n + 11),
    dma := drawByte (n + 12), div := drawByte (n + 13), tima := drawByte (n + 14), tma := drawByte (n + 15),
    tac := (Config.bootDraw (n + 16)).setWidth 3, jsel := (Config.bootDraw (n + 17)).setWidth 2, sb := drawByte (n + 18),
    sc := drawByte (n + 19) }

/-- The registers after a PostBoot reset (R50). -/
def postBootCpu (io : Config.ResetIo) : Cpu :=
  { a := 0x01, f := 0x90, b := 0x00, c := 0x13, d := 0x00, e := 0xD8, h := 0x01, l := 0x4D,
    sp := 0xFFFE, pc := 0x0100, ime := io.ime, halted := false, stopped := false }

/-- The registers after a BootRom reset (R50): PC = 0x0000, IME = 0, the other registers drawn; F keeps its zero low nibble (R24). -/
def bootRomCpu (n : Nat) : Cpu :=
  { a := drawByte n, f := maskF (drawByte (n + 1)), b := drawByte (n + 2), c := drawByte (n + 3), d := drawByte (n + 4),
    e := drawByte (n + 5), h := drawByte (n + 6), l := drawByte (n + 7), sp := Config.bootDraw (n + 8), pc := 0x0000,
    ime := false, halted := false, stopped := false }

/-- How many values a BootRom reset draws. -/
def bootDraws : Nat := 29

/-- The table of R50 with its registers and P_RESET_IO items given; the RAMs, the boot buffer, the image, the breakpoints and the
serial log are unchanged (R400). -/
def resetWith (cpu : Cpu) (io : Config.ResetIo) (overlay : Bool) (s : State) : State :=
  { s with
    cpu := cpu
    irq := { ifl := io.ifl, ie := io.ie }
    timer := { div := io.div, tima := io.tima, tma := io.tma, tac := io.tac, tsub := 0, dsub := 0, tacc := 0 }
    video := { lcdc := io.lcdc, statw := io.statw, coinc := decide (io.lyc = 0), scy := io.scy, scx := io.scx, ly := 0,
               lyc := io.lyc, bgp := io.bgp, obp0 := io.obp0, obp1 := io.obp1, wy := io.wy, wx := io.wx,
               mode := if io.lcdc.getLsbD 7 then .oamScan else .hblank, vclock := 0, bgidx := [], fbWork := [], fbOut := [] }
    bus := { s.bus with overlay := overlay, dma := io.dma }
    cart := { s.cart with romBank := 1, ramBank := 0, ramEnable := false, bankMode := false }
    joypad := { jsel := io.jsel, buttons := ⟨false, false, false, false, false, false, false, false⟩ }
    serial := { s.serial with sb := io.sb, sc := io.sc }
    sys := { s.sys with fault := none, frameT := 0, dispatchT := 0, cycles := 0, stepT := 0 } }

/-- `reset()` (R391, R400), by P_BOOT_MODE. -/
def hostReset (s : State) : State :=
  match s.params.bootMode with
  | .postBoot => resetWith (postBootCpu s.params.resetIo) s.params.resetIo false s
  | .bootRom =>
    let n := s.sys.draws
    let t := resetWith (bootRomCpu n) (drawResetIo (n + 9)) true s
    { t with sys := { t.sys with draws := n + bootDraws } }

/-! ## Loading -/

/-- A valid image length: 32768 × 2^n for n = 0..8 (R85). -/
def validImageSize (n : Nat) : Bool := (List.range 9).any (fun k => n == 32768 * 2 ^ k)

/-- An image that load() accepts (R85, R390). -/
def Image.valid (im : Image) : Bool := validImageSize im.size && decide (im.controllerType.toNat ≤ 3)

/-- What load() answers (R390). -/
inductive LoadResult
  | success (s : State)
  | invalidCartridgeError
  deriving DecidableEq, Repr

/-- `load(image)` (R390): on an error nothing changes. It acts on a faulted machine too (assumption 28). -/
def load (im : Image) (s : State) : LoadResult :=
  if im.valid then
    .success { s with cart := { image := some im, romBank := 1, ramBank := 0, ramEnable := false, bankMode := false } }
  else .invalidCartridgeError

/-- `loadBoot(bytes256)` (R390): the boot buffer is filled, nothing else changes. It acts on a faulted machine too (assumption 28). -/
def loadBoot (bytes : Nat → Byte) (s : State) : State := { s with bus := { s.bus with boot := Memory.ofFn 256 bytes } }

/-! ## Buttons, breakpoints, resume -/

/-- The buttons a host names (R394). -/
inductive Button
  | right | left | up | down | a | b | select | start
  deriving DecidableEq, Repr

/-- Whether a button is pressed (R46). -/
def Buttons.get (b : Buttons) : Button → Bool
  | .right => b.right | .left => b.left | .up => b.up | .down => b.down
  | .a => b.a | .b => b.b | .select => b.select | .start => b.start

/-- The buttons with one pressed or released (R46). -/
def Buttons.put (b : Buttons) (k : Button) (v : Bool) : Buttons :=
  match k with
  | .right => { b with right := v }
  | .left => { b with left := v }
  | .up => { b with up := v }
  | .down => { b with down := v }
  | .a => { b with a := v }
  | .b => { b with b := v }
  | .select => { b with select := v }
  | .start => { b with start := v }

/-- `setButton(id, pressed)` (R371, R372, R394): only a press of a button not yet pressed requests the Joypad interrupt.
It acts on a faulted machine too (assumption 28). -/
def setButton (k : Button) (pressed : Bool) (s : State) : State :=
  let s1 := { s with joypad := { s.joypad with buttons := s.joypad.buttons.put k pressed } }
  if pressed && !s.joypad.buttons.get k then requestIrq .joypad s1 else s1

/-- `addBreakpoint(pc)` (R395); the set is a list with no repeats (assumption 21). It acts on a faulted machine too (assumption 28). -/
def addBreakpoint (pc : Word) (s : State) : State :=
  { s with sys := { s.sys with breakpoints := if s.sys.breakpoints.contains pc then s.sys.breakpoints else pc :: s.sys.breakpoints } }

/-- `removeBreakpoint(pc)` (R395). It acts on a faulted machine too (assumption 28). -/
def removeBreakpoint (pc : Word) (s : State) : State :=
  { s with sys := { s.sys with breakpoints := s.sys.breakpoints.filter (fun q => q != pc) } }

/-- `resume()` (R397). It acts on a faulted machine too (assumption 28). -/
def resume (s : State) : State := s.withCpu { s.cpu with stopped := false }

/-! ## runFrame() -/

/-- The frame budget in t-cycles (R6, R392). -/
def frameBudget : Nat := 70224

/-- What runFrame() answers (R392), with the state it leaves. -/
inductive FrameResult
  | frameDone (s : State)
  | stopped (s : State)
  | breakpointHit (pc : Word) (s : State)
  | faulted (e : DecodeFault) (s : State)
  | refused (r : Refusal)
  deriving DecidableEq, Repr

/-- The loop of runFrame() (R392). The fuel is the budget: every step costs at least one t-cycle (`paramsOk`, Safety.lean), so when it is
spent the budget is. -/
def frameLoop : Nat → Bool → State → FrameResult
  | 0, _, s => .frameDone s
  | n + 1, first, s =>
    if frameBudget ≤ s.sys.frameT then .frameDone s
    else if s.cpu.stopped then .stopped s
    else if !first && !s.cpu.halted && s.sys.breakpoints.contains s.cpu.pc then .breakpointHit s.cpu.pc s
    else
      match step s with
      | .next t =>
        match t.sys.fault with
        | some e => .faulted e t
        | none => frameLoop n false { t with sys := { t.sys with frameT := t.sys.frameT + t.sys.stepT } }
      | .fault (.fatalDecodeError opcode pc) => .faulted ⟨opcode, pc⟩ s
      | .fault .stopped => .stopped s
      | .refused r => .refused r

/-- `runFrame()` (R392). -/
def runFrame (s : State) : FrameResult :=
  match s.sys.fault with
  | some e => .faulted e s
  | none => frameLoop frameBudget true { s with sys := { s.sys with frameT := 0 } }

/-! ## What the host reads -/

/-- `framebuffer()` (R393): row y, column x of fb_out. -/
def framebuffer (s : State) (y x : Nat) : Config.Rgba := Frame.pixel s.params.shades s.video.fbOut y x

/-- The plain data of `snapshot()` (R396). -/
structure Snapshot where
  a : Byte
  f : Byte
  b : Byte
  c : Byte
  d : Byte
  e : Byte
  h : Byte
  l : Byte
  sp : Word
  pc : Word
  flags : Flags
  ime : Bool
  halted : Bool
  stopped : Bool
  ifl : BitVec 5
  ie : BitVec 5
  lcdc : Byte
  stat : Byte
  scy : Byte
  scx : Byte
  ly : Byte
  lyc : Byte
  wy : Byte
  wx : Byte
  bgp : Byte
  obp0 : Byte
  obp1 : Byte
  div : Byte
  tima : Byte
  tma : Byte
  tac : BitVec 3
  fault : Option DecodeFault
  deriving DecidableEq, Repr

/-- `snapshot()` (R396). -/
def snapshot (s : State) : Snapshot :=
  { a := s.cpu.a, f := s.cpu.f, b := s.cpu.b, c := s.cpu.c, d := s.cpu.d, e := s.cpu.e, h := s.cpu.h, l := s.cpu.l,
    sp := s.cpu.sp, pc := s.cpu.pc, flags := s.cpu.flags, ime := s.cpu.ime, halted := s.cpu.halted, stopped := s.cpu.stopped,
    ifl := s.irq.ifl, ie := s.irq.ie, lcdc := s.video.lcdc, stat := statRead s.video, scy := s.video.scy, scx := s.video.scx,
    ly := s.video.ly, lyc := s.video.lyc, wy := s.video.wy, wx := s.video.wx, bgp := s.video.bgp, obp0 := s.video.obp0,
    obp1 := s.video.obp1, div := s.timer.div, tima := s.timer.tima, tma := s.timer.tma, tac := s.timer.tac, fault := s.sys.fault }

end Sys2Proof.Machine
end

