-- ==== Sys2Proof/Safety.lean ====
section
/-! DEFINITION. The machine's invariant and the states in which a step runs, in the terms the statements use. -/

namespace Sys2Proof.Machine

/-- A memory of `n` bytes in canonical form: only indices below `n` are listed. -/
def Memory.ok (n : Nat) (m : Memory) : Bool := Memory.wf m && Sparse.keysBelow n m

/-- A frame of 160 × 144 pixels in canonical form (R6, R41). -/
def Frame.ok (sh : Config.Shades) (fb : Frame) : Bool := Sparse.wf sh.s0 fb && Sparse.keysBelow (160 * 144) fb

/-- How long a mode (a line, for VBlank) lasts, in t-cycles (R352). -/
def VideoMode.length : VideoMode → Nat
  | .oamScan => 80 | .drawing => 172 | .hblank => 204 | .vblank => 456

/-- LY and the mode agree: lines 144 to 153 are VBlank, the visible lines are not (R351-R353). -/
def Video.lineOk (u : Video) : Bool :=
  match u.mode with
  | .vblank => decide (144 ≤ u.ly.toNat) && decide (u.ly.toNat ≤ 153)
  | .oamScan => decide (u.ly.toNat < 144)
  | .drawing => decide (u.ly.toNat < 144)
  | .hblank => decide (u.ly.toNat < 144)

/-- The video unit's bounds (R41, R352, R353). -/
def Video.ok (sh : Config.Shades) (u : Video) : Bool :=
  u.lineOk && decide (u.vclock < u.mode.length) && Frame.ok sh u.fbWork && Frame.ok sh u.fbOut &&
    (Sparse.wf 0 u.bgidx && Sparse.keysBelow 160 u.bgidx)

/-- The memories behind the bus (R42-R44). -/
def Bus.ok (b : Bus) : Bool :=
  Memory.ok 8192 b.vram && Memory.ok 8192 b.wram && Memory.ok 160 b.oam && Memory.ok 128 b.hram && Memory.ok 8192 b.extram &&
    Memory.ok 256 b.boot

/-- The timer's hidden counters stay in their ranges (R40). -/
def Timer.ok (tick : Nat) (u : Timer) : Bool := decide (u.tsub < tick) && decide (u.dsub < 16) && decide (u.tacc < 64)

/-- The cartridge: the bank number is never a multiple of 0x20, so it is at least 1 (R45, R91), and an image is one that load()
accepts (R390). -/
def Cart.ok (c : Cart) : Bool :=
  decide (c.romBank.toNat % 0x20 ≠ 0) &&
    match c.image with
    | none => true
    | some im => im.valid && Memory.ok im.size im.bytes

/-- The domains of the parameters (R7, R14): the tick is positive, and every cost is a positive multiple of 4. -/
def paramsOk (p : Config.Params) : Bool :=
  decide (0 < p.timerTick) &&
    p.cycles.all (fun e => decide (0 < e.2.taken) && decide (e.2.taken % 4 = 0) && decide (0 < e.2.notTaken) &&
      decide (e.2.notTaken % 4 = 0))

/-- The invariant of the machine. -/
structure MachineInv (s : State) : Prop where
  /-- F's low nibble is always zero (R24). -/
  fLowZero : s.cpu.f &&& 0x0F = 0
  /-- Every memory keeps its canonical form and its size. -/
  bus : s.bus.ok = true
  /-- The video unit's line, mode and clock agree; the buffers keep their form. -/
  video : s.video.ok s.params.shades = true
  /-- The timer's counters stay in range. -/
  timer : s.timer.ok s.params.timerTick = true
  /-- The bank number and the image stay legal. -/
  cart : s.cart.ok = true
  /-- The parameters lie in their domains. -/
  params : paramsOk s.params = true

/-- A step fetches and runs an instruction: a cartridge is loaded and the machine is not faulted, stopped or halted (R380, R402). -/
abbrev Fetches (s : State) : Prop :=
  s.cart.image ≠ none ∧ s.sys.fault = none ∧ s.cpu.stopped = false ∧ s.cpu.halted = false

/-- A step is a halted one (R381). -/
abbrev Idles (s : State) : Prop :=
  s.cart.image ≠ none ∧ s.sys.fault = none ∧ s.cpu.stopped = false ∧ s.cpu.halted = true

/-- Outside the bytes of a word store at `a` (R11). -/
abbrev OutsideWord (a x : Word) : Prop := x ≠ a ∧ x ≠ a + 1

/-! ## The terms of the instruction statements -/

/-- The P_CYCLES key of an instruction (R7): its opcode byte, or 0x100 + b1 for the row `0xCB b1`. -/
def opcodeIndex (i : Instr) : Nat :=
  match encode .one i with
  | b0 :: b1 :: _ => if b0 = 0xCB then 0x100 + b1.toNat else b0.toNat
  | [b0] => b0.toNat
  | [] => 0

/-- The state after an instruction whose effect gave `t`: the taken cost of its row is reported (R129, R136). -/
def retired (i : Instr) (t : State) : State := t.setCycles (opcodeCost t.params (opcodeIndex i)).taken

/-- The state after a conditional transfer that was not taken (R129). -/
def retiredNotTaken (i : Instr) (t : State) : State := t.setCycles (opcodeCost t.params (opcodeIndex i)).notTaken

/-- A row of the opcode table: these bytes, and no others, stand for the instruction, and this is its default cost in t-cycles
when taken and when not (R136; one number for an unconditional row). -/
abbrev Row (bytes : List Byte) (i : Instr) (taken notTaken : Nat) : Prop :=
  decode bytes = .ok i ∧ encode .two i = bytes ∧ opcodeCost .default (opcodeIndex i) = ⟨taken, notTaken⟩

/-- F with the four flags at the bits of R25 and a zero low nibble (R24). -/
def flagByte (z n h c : Bool) : Byte :=
  (if z then 0x80 else 0) ||| (if n then 0x40 else 0) ||| (if h then 0x20 else 0) ||| (if c then 0x10 else 0)

/-- The low byte, then the high byte: how a 16-bit immediate stands in the instruction stream (R60, R128). -/
def immBytes (nn : Word) : List Byte := [nn.extractLsb' 0 8, nn.extractLsb' 8 8]

/-- An accumulator operation `o` with the operand value v, in each of the three forms (R180): a register or the byte at HL, or an
immediate. -/
abbrev AluForm (o : AluOp) (i : Instr) (s : State) (v : Byte) : Prop := (∃ x, i = .alu o x ∧ v = s.readR8 x) ∨ i = .aluImm o v

/-- The state after Push16 (R12): the high byte stored at SP - 1, then the low byte at SP - 2, and SP moved down by two. -/
def pushed (s : State) (v : Word) : State :=
  { memWrite (memWrite s (s.cpu.sp - 1) (v.extractLsb' 8 8)) (s.cpu.sp - 2) (v.extractLsb' 0 8) with
    cpu := { s.cpu with sp := s.cpu.sp - 2 } }

/-- The word at SP (R12): the low byte at SP, the high byte at SP + 1. -/
def popped (s : State) : Word := memRead s (s.cpu.sp + 1) ++ memRead s s.cpu.sp

/-- The state after the dispatch of IF bit `bit` to a vector (R323). -/
def dispatched (s : State) (bit : Nat) (vector : Word) : State :=
  let p := pushed { s with irq := { s.irq with ifl := s.irq.ifl &&& ~~~(1#5 <<< bit) } } s.cpu.pc
  { p with
    cpu := { p.cpu with pc := vector, ime := false, halted := false }
    sys := { p.sys with dispatchT := p.sys.dispatchT + 16 } }

/-! ## The terms of the memory statements -/

/-- An address whose byte is plain storage in this state (R64, rows 3-7 and 10): VRAM, WRAM and its echo, OAM, HRAM, and the
external RAM of a type-0 cartridge (R87) or, by the model's choice, of an empty slot (assumption 9). -/
abbrev PlainRam (s : State) (a : Word) : Prop :=
  (0x8000 ≤ a.toNat ∧ a.toNat < 0xA000) ∨ (0xA000 ≤ a.toNat ∧ a.toNat < 0xC000 ∧ s.cart.banked = false) ∨
    (0xC000 ≤ a.toNat ∧ a.toNat < 0xFEA0) ∨ (0xFF80 ≤ a.toNat ∧ a.toNat < 0xFFFF)

/-- Two addresses that name one byte: the same address, or a WRAM address and its echo (R64, rows 5 and 6). -/
abbrev SameByte (a x : Word) : Prop :=
  x = a ∨ (0xC000 ≤ a.toNat ∧ a.toNat < 0xDE00 ∧ x = a + 0x2000) ∨ (0xE000 ≤ a.toNat ∧ a.toNat < 0xFE00 ∧ x = a - 0x2000)

/-- The two bytes a push stores to, in the order of the writes (R12). -/
def pushAddrs (s : State) : List Word := [s.cpu.sp - 1, s.cpu.sp - 2]

/-- The addresses a complete instruction stores to, in the order of its writes; none for every form not listed. -/
def storeAddrsOf (i : Instr) (s : State) : List Word :=
  match i with
  | .ld_atHL_b | .ld_atHL_c | .ld_atHL_d | .ld_atHL_e | .ld_atHL_h | .ld_atHL_l | .ld_atHL_a | .ld_atHL_n _ | .inc_atHL | .dec_atHL
  | .ld_atHLi_a | .ld_atHLd_a
  | .rlc_atHL | .rrc_atHL | .rl_atHL | .rr_atHL | .sla_atHL | .sra_atHL | .swap_atHL | .srl_atHL
  | .res_0_atHL | .res_1_atHL | .res_2_atHL | .res_3_atHL | .res_4_atHL | .res_5_atHL | .res_6_atHL | .res_7_atHL
  | .set_0_atHL | .set_1_atHL | .set_2_atHL | .set_3_atHL | .set_4_atHL | .set_5_atHL | .set_6_atHL | .set_7_atHL => [s.cpu.hl]
  | .ld_atBC_a => [s.cpu.bc]
  | .ld_atDE_a => [s.cpu.de]
  | .ld_atnn_a nn => [nn]
  | .ld_atnn_sp nn => [nn, nn + 1]
  | .ldh_atn_a n => [0xFF00 + n.setWidth 16]
  | .ld_atC_a => [0xFF00 + s.cpu.c.setWidth 16]
  | .push_bc | .push_de | .push_hl | .push_af | .call_nn _
  | .rst_00 | .rst_08 | .rst_10 | .rst_18 | .rst_20 | .rst_28 | .rst_30 | .rst_38 => pushAddrs s
  | .call_nz_nn _ => if s.cpu.cond .nz then pushAddrs s else []
  | .call_z_nn _ => if s.cpu.cond .z then pushAddrs s else []
  | .call_nc_nn _ => if s.cpu.cond .nc then pushAddrs s else []
  | .call_c_nn _ => if s.cpu.cond .c then pushAddrs s else []
  | _ => []

/-- The addresses an instruction stores to; the bare prefix stores where the extended instruction it runs does (R295). -/
def storeAddrs (i : Instr) (s : State) : List Word :=
  if i = .prefix_cb then storeAddrsOf (extended (memRead s s.cpu.pc)) s else storeAddrsOf i s

/-! ## The terms of the video statements -/

/-- Row y rendered (R360): the background pass, then the window pass, then the sprite pass. -/
def renderedRow (sh : Config.Shades) (vram oam : Memory) (y : Nat) (u : Video) : Video :=
  spritePass sh vram oam y (windowPass sh vram y (backgroundPass sh vram y u))

/-- What OAM entry `i` draws at row y, column x, if anything (R365): the column inside the sprite is x minus the sprite's left edge. -/
def spriteDraws (sh : Config.Shades) (vram oam : Memory) (u : Video) (y x i : Nat) : Option Config.Rgba :=
  let h := spriteHeight u.lcdc
  let row0 : Int := y - ((Memory.get oam (4 * i)).toNat - 16)
  let col : Int := x - ((Memory.get oam (4 * i + 1)).toNat - 8)
  let fl := Memory.get oam (4 * i + 3)
  if 0 ≤ row0 ∧ row0 < h ∧ 0 ≤ col ∧ col < 8 then
    let row := if fl.getLsbD 6 then h - 1 - row0.toNat else row0.toNat
    let t := Memory.get oam (4 * i + 2)
    let ta := 0x8000 + 16 * (if h = 16 then t &&& 0xFE else t).toNat + (if 8 ≤ row then 16 else 0)
    let ci := tilePixel vram ta (row % 8) (if fl.getLsbD 5 then 7 - col.toNat else col.toNat)
    if ci ≠ 0 ∧ (fl.getLsbD 7 = false ∨ Sparse.get 0 u.bgidx x = 0) then
      some (shade sh (if fl.getLsbD 4 then u.obp1 else u.obp0) ci)
    else none
  else none

end Sys2Proof.Machine
end

