-- ==== Sys2Proof/Certificates/Slice0/Obligations.lean ====
section
/-! DEFINITION. The statements for the provers. In a statement about `exec` the state is the one in which a meaning runs: the
instruction's own bytes are fetched, so PC is pc_next (R27, R150); `StepRunsDecodedInstruction` ties it to a step. -/

section

open Sys2Proof Sys2Proof.Machine

/-! ## Encoding -/

/-- Words of R134's maps, written out bit by bit (30_encoding.md, sections 1, 2 and 5): one or more of every family.
The last clause, that the lone byte 0xCB decodes to the table's row PREFIX CB, is the model's choice (assumption 11): R121 calls 0xCB
no instruction by itself. -/
def Obligations.PublishedWordsDecode : Prop :=
  decode [0b01111000] = .ok .ld_a_b ∧ decode [0b00001110, 0xFF] = .ok (.ld_c_n 0xFF) ∧ decode [0b01111110] = .ok .ld_a_atHL ∧
  decode [0b00100001, 0x34, 0x12] = .ok (.ld_hl_nn 0x1234) ∧ decode [0b00001000, 0x00, 0xC1] = .ok (.ld_atnn_sp 0xC100) ∧
  decode [0b11110001] = .ok .pop_af ∧ decode [0b11000101] = .ok .push_bc ∧ decode [0b11100000, 0x46] = .ok (.ldh_atn_a 0x46) ∧
  decode [0b00111010] = .ok .ld_a_atHLd ∧ decode [0b10101111] = .ok .xor_a_a ∧ decode [0b11111110, 0x0F] = .ok (.cp_a_n 0x0F) ∧
  decode [0b00110101] = .ok .dec_atHL ∧ decode [0b00111001] = .ok .add_hl_sp ∧ decode [0b11101000, 0x80] = .ok (.add_sp_e 0x80) ∧
  decode [0b00001111] = .ok .rrca ∧ decode [0xCB, 0b00110111] = .ok .swap_a ∧ decode [0xCB, 0b01111100] = .ok .bit_7_h ∧
  decode [0xCB, 0b10111110] = .ok .res_7_atHL ∧ decode [0xCB, 0b11000000] = .ok .set_0_b ∧
  decode [0b00100000, 0xFB] = .ok (.jr_nz_e 0xFB) ∧ decode [0b11011100, 0x00, 0x02] = .ok (.call_c_nn 0x0200) ∧
  decode [0b11101111] = .ok .rst_28 ∧ decode [0b01110110] = .ok .halt ∧ decode [0b00010000, 0x00] = .ok .stop ∧
  decode [0b11011101] = .ok .illegal_dd ∧ decode [0xCB] = .ok .prefix_cb

/-- Decoding an encoded well-formed instruction gives it back, whatever follows it and whatever length STOP has: no bit of an
encoding is dropped. Derived from 30_encoding.md (R121-R130); that `encode` writes STOP's ignored byte as 0x00 is the model's choice
(assumption 16), and so is the row of the lone prefix (assumption 11). -/
def Obligations.DecodeEncodeRoundTrip : Prop :=
  ∀ (i : Instr) (stopLen : Config.StopLen) (rest : List Byte), WellFormed i → decode (encode stopLen i ++ rest) = .ok i

/-- The other direction: the bytes the decoder read are the encoding of what it gave, and it gives nothing exactly where bytes are
missing. Two exceptions are the model's choices. The lone prefix decodes by itself (assumption 11). STOP's ignored second byte is
no part of the instruction (assumption 16): the statement takes STOP as one byte, so a lone 0x10 decodes, and with P_STOP_LEN = 2 a byte
after it is skipped whatever it is. Derived from 30_encoding.md (R120, R129, R130, R132, R133). -/
def Obligations.EncodeDecodeRoundTrip : Prop :=
  (∀ (bytes : List Byte) (i : Instr), decode bytes = .ok i → encode .one i <+: bytes) ∧
  (∀ (b0 : Byte) (rest : List Byte), (∃ e, decode (b0 :: rest) = .error e) ↔
    b0 ≠ 0xCB ∧ (b0 :: rest).length < instrLength .one b0)

/-- R120: one, two or three bytes, and the first byte alone gives the length; a prefixed instruction has two; STOP has
P_STOP_LEN. -/
def Obligations.FirstByteFixesLength : Prop :=
  (∀ (i : Instr) (stopLen : Config.StopLen), WellFormed i → ∃ b0 rest, encode stopLen i = b0 :: rest ∧
    (encode stopLen i).length = instrLength stopLen b0 ∧ 1 ≤ instrLength stopLen b0 ∧ instrLength stopLen b0 ≤ 3) ∧
  (∀ stopLen, instrLength stopLen 0xCB = 2) ∧ instrLength .one 0x10 = 1 ∧ instrLength .two 0x10 = 2

/-! ## The step -/

/-- R380, and R129 for its instruction: a step fetches the bytes at PC, PC moves past them, the decoded instruction runs, and if it
raised no FatalDecodeError the video unit and then the timer advance by its cost, one interrupt pass runs, and the peripherals
advance by what a dispatch charged. A halted step is the same with 4 t and no instruction. Derived: that all bytes of the instruction
are read, and PC is moved to pc_next, before its meaning runs is the model's reading of R12, R27 and R129 (assumption 13). -/
def Obligations.StepRunsDecodedInstruction : Prop :=
  (∀ (s : State) (i : Instr), Fetches s → decode (bytesAt s s.cpu.pc 3) = .ok i →
    step s =
      match exec i { s with
        cpu := { s.cpu with pc := s.cpu.pc + BitVec.ofNat 16 (instrLength s.params.stopLen (memRead s s.cpu.pc)) }
        sys := { s.sys with dispatchT := 0 } } with
      | .next t => .next (if t.sys.fault = none then finishStep t.sys.cycles t else t)
      | .fault e => .fault e
      | .refused r => .refused r) ∧
  (∀ s : State, Idles s → step s = .next (finishStep 4 { s with sys := { s.sys with dispatchT := 0 } })) ∧
  (∀ (n : Nat) (t : State), finishStep n t =
    let s1 := evaluate (timerAdvance n (videoAdvance n t))
    let s2 := if 0 < s1.sys.dispatchT then timerAdvance s1.sys.dispatchT (videoAdvance s1.sys.dispatchT s1) else s1
    { s2 with sys := { s2.sys with stepT := n + s2.sys.dispatchT } })

/-- R381: a halted step fetches nothing and charges 4 t, in which the peripherals advance, and then the interrupt pass runs. While the
machine stays halted its registers and memories stay as they are, and no request that could end the halt is pending. With IME = 0 an
enabled request ends it and changes nothing else of the processor (R324); with IME = 1 its dispatch ends it, which moves PC to a
vector and SP down by two (R323; the bytes pushed are InterruptPass's). Where no enabled request is pending and none of the step's own
sources is enabled, it stays. Derived: the first clause is R381's, the others are inferred from R322 to R324, R350 to R354 and R382. -/
def Obligations.HaltedStepIdles : Prop :=
  ∀ s : State, Idles s →
    step s = .next (finishStep 4 { s with sys := { s.sys with dispatchT := 0 } }) ∧
    ∃ t, step s = .next t ∧
      (t.cpu.halted = true → t.cpu = s.cpu ∧ t.bus = s.bus ∧ t.cart = s.cart ∧ t.sys.stepT = 4 ∧
        t.irq.ifl &&& t.irq.ie &&& (if s.cpu.ime then 0b10111 else 0b11111) = 0) ∧
      (t.cpu.halted = false → s.cpu.ime = false → t.cpu = { s.cpu with halted := false } ∧ t.bus = s.bus ∧ t.cart = s.cart ∧
        t.sys.stepT = 4 ∧ t.irq.ifl &&& t.irq.ie ≠ 0) ∧
      (t.cpu.halted = false → s.cpu.ime = true →
        t.cpu = { s.cpu with pc := t.cpu.pc, sp := s.cpu.sp - 2, ime := false, halted := false } ∧
        (t.cpu.pc = 0x0040 ∨ t.cpu.pc = 0x0048 ∨ t.cpu.pc = 0x0050 ∨ t.cpu.pc = 0x0060) ∧ t.sys.stepT = 20) ∧
      ((s.irq.ifl ||| 0b00111) &&& s.irq.ie = 0 → t.cpu.halted = true)

/-- Where a step makes no step: with no cartridge (R402), on a faulted machine (R386), while stopped (R384). Derived; that a step
answers a fault there, and in this order, is the model's form of "performs no step" (assumption 12). -/
def Obligations.StepStops : Prop :=
  (∀ s : State, s.cart.image = none → step s = .refused .noCartridge) ∧
  (∀ (s : State) (im : Image) (e : DecodeFault), s.cart.image = some im → s.sys.fault = some e →
    step s = .fault (.fatalDecodeError e.opcode e.pc)) ∧
  (∀ (s : State) (im : Image), s.cart.image = some im → s.sys.fault = none → s.cpu.stopped = true → step s = .fault .stopped)

/-- R296 and R310: an illegal opcode raises FatalDecodeError with its byte and address. PC is left at it, nothing else of the
machine changes (the step's own dispatch counter starts at 0), the peripherals do not advance, and no further step is made.
Derived: that the illegal opcode itself answers a next state is the model's form of R310 (assumption 2), and so is what the following step
answers, a fault (assumption 12). -/
def Obligations.IllegalOpcodeFreezesTheMachine : Prop :=
  (∀ k : IllegalOp, decode [k.byte] = .ok (.illegal k) ∧ ∀ s : State,
    exec (.illegal k) s = .next { s with
      cpu := { s.cpu with pc := s.cpu.pc - 1 }
      sys := { s.sys with fault := some ⟨k.byte, s.cpu.pc - 1⟩ } }) ∧
  (∀ (k : IllegalOp) (s : State), Fetches s → memRead s s.cpu.pc = k.byte →
    ∃ t, step s = .next t ∧ t = { s with sys := { s.sys with dispatchT := 0, fault := some ⟨k.byte, s.cpu.pc⟩ } } ∧
      step t = .fault (.fatalDecodeError k.byte s.cpu.pc))

/-- Every instruction answers a next state from every state, and only an illegal opcode records a fault. Derived from
45_control.md, 46_system.md and 60_exceptions.md (R310, R311). That an illegal opcode answers a next state that records the fault, not a
stop, is the model's form of R310 (assumption 2); that the bare prefix is one of the instructions is its choice (assumption 11). -/
def Obligations.EveryInstructionCompletes : Prop :=
  ∀ (i : Instr) (s : State), ∃ t, exec i s = .next t ∧ t.params = s.params ∧ t.cart.image = s.cart.image ∧ t.bus.boot = s.bus.boot ∧
    t.sys.breakpoints = s.sys.breakpoints ∧ ((∀ k, i ≠ .illegal k) → t.sys.fault = s.sys.fault)

/-! ## Loads, stores and the stack -/

/-- R151, R152, R153: LD r,r', LD r,n and LD r,(HL) write one register and nothing else. -/
def Obligations.RegisterLoads : Prop :=
  (∀ dst src : Reg8, Row [0b01#2 ++ dst.code ++ src.code] (.ldRegReg dst src) 4 4 ∧ ∀ s : State,
    exec (.ldRegReg dst src) s = .next (retired (.ldRegReg dst src) { s with cpu := s.cpu.setReg dst (s.cpu.getReg src) })) ∧
  (∀ (dst : Reg8) (n : Byte), Row [0b00#2 ++ dst.code ++ 0b110#3, n] (.ldRegImm dst n) 8 8 ∧ ∀ s : State,
    exec (.ldRegImm dst n) s = .next (retired (.ldRegImm dst n) { s with cpu := s.cpu.setReg dst n })) ∧
  (∀ dst : Reg8, Row [0b01#2 ++ dst.code ++ 0b110#3] (.ldRegAtHL dst) 8 8 ∧ ∀ s : State,
    exec (.ldRegAtHL dst) s = .next (retired (.ldRegAtHL dst) { s with cpu := s.cpu.setReg dst (memRead s (s.cpu.h ++ s.cpu.l)) }))

/-- R154, R155: LD (HL),r and LD (HL),n are one bus write at HL and nothing else. -/
def Obligations.StoresThroughHL : Prop :=
  (∀ r : Reg8, Row [0b01110#5 ++ r.code] (.ldAtHLReg r) 8 8 ∧ ∀ s : State,
    exec (.ldAtHLReg r) s = .next (retired (.ldAtHLReg r) (memWrite s (s.cpu.h ++ s.cpu.l) (s.cpu.getReg r)))) ∧
  (∀ n : Byte, Row [0b00110110, n] (.ld_atHL_n n) 12 12 ∧ ∀ s : State,
    exec (.ld_atHL_n n) s = .next (retired (.ld_atHL_n n) (memWrite s (s.cpu.h ++ s.cpu.l) n)))

/-- R156, R157, R160, R164, R166, R170, R171: the loads of A through a pair, an absolute address and the high page, and the two
that move HL. -/
def Obligations.AccumulatorLoads : Prop :=
  (Row [0b00001010] .ld_a_atBC 8 8 ∧ ∀ s : State,
    exec .ld_a_atBC s = .next (retired .ld_a_atBC { s with cpu := { s.cpu with a := memRead s (s.cpu.b ++ s.cpu.c) } })) ∧
  (Row [0b00011010] .ld_a_atDE 8 8 ∧ ∀ s : State,
    exec .ld_a_atDE s = .next (retired .ld_a_atDE { s with cpu := { s.cpu with a := memRead s (s.cpu.d ++ s.cpu.e) } })) ∧
  (∀ nn : Word, Row (0b11111010 :: immBytes nn) (.ld_a_atnn nn) 16 16 ∧ ∀ s : State,
    exec (.ld_a_atnn nn) s = .next (retired (.ld_a_atnn nn) { s with cpu := { s.cpu with a := memRead s nn } })) ∧
  (∀ n : Byte, Row [0b11110000, n] (.ldh_a_atn n) 12 12 ∧ ∀ s : State,
    exec (.ldh_a_atn n) s = .next (retired (.ldh_a_atn n) { s with cpu := { s.cpu with a := memRead s (0xFF#8 ++ n) } })) ∧
  (Row [0b11110010] .ld_a_atC 8 8 ∧ ∀ s : State,
    exec .ld_a_atC s = .next (retired .ld_a_atC { s with cpu := { s.cpu with a := memRead s (0xFF#8 ++ s.cpu.c) } })) ∧
  (Row [0b00101010] .ld_a_atHLi 8 8 ∧ ∀ s : State,
    let hl := s.cpu.h ++ s.cpu.l
    exec .ld_a_atHLi s = .next (retired .ld_a_atHLi { s with cpu := { s.cpu with
      a := memRead s hl, h := (hl + 1).extractLsb' 8 8, l := (hl + 1).extractLsb' 0 8 } })) ∧
  (Row [0b00111010] .ld_a_atHLd 8 8 ∧ ∀ s : State,
    let hl := s.cpu.h ++ s.cpu.l
    exec .ld_a_atHLd s = .next (retired .ld_a_atHLd { s with cpu := { s.cpu with
      a := memRead s hl, h := (hl - 1).extractLsb' 8 8, l := (hl - 1).extractLsb' 0 8 } }))

/-- R158, R159, R161, R165, R167, R172, R173: the stores of A, each one bus write of A, and the two that then move HL. -/
def Obligations.AccumulatorStores : Prop :=
  (Row [0b00000010] .ld_atBC_a 8 8 ∧ ∀ s : State,
    exec .ld_atBC_a s = .next (retired .ld_atBC_a (memWrite s (s.cpu.b ++ s.cpu.c) s.cpu.a))) ∧
  (Row [0b00010010] .ld_atDE_a 8 8 ∧ ∀ s : State,
    exec .ld_atDE_a s = .next (retired .ld_atDE_a (memWrite s (s.cpu.d ++ s.cpu.e) s.cpu.a))) ∧
  (∀ nn : Word, Row (0b11101010 :: immBytes nn) (.ld_atnn_a nn) 16 16 ∧ ∀ s : State,
    exec (.ld_atnn_a nn) s = .next (retired (.ld_atnn_a nn) (memWrite s nn s.cpu.a))) ∧
  (∀ n : Byte, Row [0b11100000, n] (.ldh_atn_a n) 12 12 ∧ ∀ s : State,
    exec (.ldh_atn_a n) s = .next (retired (.ldh_atn_a n) (memWrite s (0xFF#8 ++ n) s.cpu.a))) ∧
  (Row [0b11100010] .ld_atC_a 8 8 ∧ ∀ s : State,
    exec .ld_atC_a s = .next (retired .ld_atC_a (memWrite s (0xFF#8 ++ s.cpu.c) s.cpu.a))) ∧
  (Row [0b00100010] .ld_atHLi_a 8 8 ∧ ∀ s : State,
    let hl := s.cpu.h ++ s.cpu.l
    exec .ld_atHLi_a s = .next (retired .ld_atHLi_a { memWrite s hl s.cpu.a with
      cpu := { s.cpu with h := (hl + 1).extractLsb' 8 8, l := (hl + 1).extractLsb' 0 8 } })) ∧
  (Row [0b00110010] .ld_atHLd_a 8 8 ∧ ∀ s : State,
    let hl := s.cpu.h ++ s.cpu.l
    exec .ld_atHLd_a s = .next (retired .ld_atHLd_a { memWrite s hl s.cpu.a with
      cpu := { s.cpu with h := (hl - 1).extractLsb' 8 8, l := (hl - 1).extractLsb' 0 8 } }))

/-- R162, R163, R174: LD rr,nn writes one pair; LD (nn),SP stores SP's low byte and then its high byte; LD SP,HL writes SP. -/
def Obligations.SixteenBitLoads : Prop :=
  (∀ (p : Reg16) (nn : Word), Row ((0b00#2 ++ p.code ++ 0b0001#4) :: immBytes nn) (.ldPairImm p nn) 12 12 ∧ ∀ s : State,
    exec (.ldPairImm p nn) s = .next (retired (.ldPairImm p nn) { s with cpu := s.cpu.setPair p nn })) ∧
  (∀ nn : Word, Row (0b00001000 :: immBytes nn) (.ld_atnn_sp nn) 20 20 ∧ ∀ s : State,
    exec (.ld_atnn_sp nn) s = .next (retired (.ld_atnn_sp nn)
      (memWrite (memWrite s nn (s.cpu.sp.extractLsb' 0 8)) (nn + 1) (s.cpu.sp.extractLsb' 8 8)))) ∧
  (Row [0b11111001] .ld_sp_hl 8 8 ∧ ∀ s : State,
    exec .ld_sp_hl s = .next (retired .ld_sp_hl { s with cpu := { s.cpu with sp := s.cpu.h ++ s.cpu.l } }))

/-- R168: POP takes the low byte at SP and the high byte at SP + 1, moves SP up by two, and writes the pair; POP AF keeps only
bits 7:4 of the byte that F takes. -/
def Obligations.PopResults : Prop :=
  (∀ q : Stk16, Row [0b11#2 ++ q.code ++ 0b0001#4] (.pop q) 12 12) ∧
  ∀ s : State,
    let lo := memRead s s.cpu.sp
    let hi := memRead s (s.cpu.sp + 1)
    exec .pop_bc s = .next (retired .pop_bc { s with cpu := { s.cpu with b := hi, c := lo, sp := s.cpu.sp + 2 } }) ∧
    exec .pop_de s = .next (retired .pop_de { s with cpu := { s.cpu with d := hi, e := lo, sp := s.cpu.sp + 2 } }) ∧
    exec .pop_hl s = .next (retired .pop_hl { s with cpu := { s.cpu with h := hi, l := lo, sp := s.cpu.sp + 2 } }) ∧
    exec .pop_af s = .next (retired .pop_af { s with cpu := { s.cpu with a := hi, f := lo &&& 0xF0, sp := s.cpu.sp + 2 } })

/-- R12 as PUSH uses it: the high byte is written at SP - 1, then the low byte at SP - 2, and SP - 2 is left in SP. -/
def Obligations.PushResults : Prop :=
  ∀ q : Stk16, Row [0b11#2 ++ q.code ++ 0b0101#4] (.push q) 16 16 ∧ ∀ s : State,
    exec (.push q) s = .next (retired (.push q) (pushed s (s.cpu.getStk q)))

/-- The law the source states for the stack (R169, E3): where the two stack bytes are plain storage, a push and then a pop give
back the word and the stack pointer; AF comes back with F's low nibble clear. With no image loaded, that 0xA000-0xBFFF is plain storage is
the model's choice (assumption 9). -/
def Obligations.PushPopRoundTrip : Prop :=
  ∀ (q r : Stk16) (s : State), PlainRam s (s.cpu.sp - 1) → PlainRam s (s.cpu.sp - 2) →
    ∃ t u, exec (.push q) s = .next t ∧ exec (.pop r) t = .next u ∧ u.cpu.sp = s.cpu.sp ∧
      u.cpu.getStk r = if r = .af then s.cpu.getStk q &&& 0xFFF0 else s.cpu.getStk q

/-! ## 8-bit arithmetic and logic -/

/-- R181, R182, R183, R184, R188, in every operand form (R180): the sums and differences are taken on integers, and A and F
are all that is written; CP writes F alone. -/
def Obligations.AddSubtractCompare : Prop :=
  (∀ o : AluOp, o ≠ .and → o ≠ .xor → o ≠ .or →
    (∀ x : R8, Row [0b10#2 ++ o.code ++ x.code] (.alu o x) (if x = .atHL then 8 else 4) (if x = .atHL then 8 else 4)) ∧
    ∀ n : Byte, Row [0b11#2 ++ o.code ++ 0b110#3, n] (.aluImm o n) 8 8) ∧
  ∀ (s : State) (i : Instr) (v : Byte),
    let a : Int := s.cpu.a.toNat
    let w : Int := v.toNat
    let c : Int := if s.cpu.f.getLsbD 4 then 1 else 0
    (AluForm .add i s v → exec i s = .next (retired i { s with cpu := { s.cpu with
      a := BitVec.ofInt 8 (a + w)
      f := flagByte (decide ((a + w) % 256 = 0)) false (decide (a % 16 + w % 16 > 15)) (decide (a + w > 255)) } })) ∧
    (AluForm .adc i s v → exec i s = .next (retired i { s with cpu := { s.cpu with
      a := BitVec.ofInt 8 (a + w + c)
      f := flagByte (decide ((a + w + c) % 256 = 0)) false (decide (a % 16 + w % 16 + c > 15)) (decide (a + w + c > 255)) } })) ∧
    (AluForm .sub i s v → exec i s = .next (retired i { s with cpu := { s.cpu with
      a := BitVec.ofInt 8 (a - w)
      f := flagByte (decide ((a - w) % 256 = 0)) true (decide (a % 16 - w % 16 < 0)) (decide (a - w < 0)) } })) ∧
    (AluForm .sbc i s v → exec i s = .next (retired i { s with cpu := { s.cpu with
      a := BitVec.ofInt 8 (a - w - c)
      f := flagByte (decide ((a - w - c) % 256 = 0)) true (decide (a % 16 - w % 16 - c < 0)) (decide (a - w - c < 0)) } })) ∧
    (AluForm .cp i s v → exec i s = .next (retired i { s with cpu := { s.cpu with
      f := flagByte (decide ((a - w) % 256 = 0)) true (decide (a % 16 < w % 16)) (decide (a < w)) } }))

/-- R185, R186, R187, in every operand form: A takes the result, Z is set by it, N and C are cleared, H is set by AND alone. -/
def Obligations.LogicOperations : Prop :=
  (∀ o : AluOp, o = .and ∨ o = .xor ∨ o = .or →
    (∀ x : R8, Row [0b10#2 ++ o.code ++ x.code] (.alu o x) (if x = .atHL then 8 else 4) (if x = .atHL then 8 else 4)) ∧
    ∀ n : Byte, Row [0b11#2 ++ o.code ++ 0b110#3, n] (.aluImm o n) 8 8) ∧
  ∀ (s : State) (i : Instr) (v : Byte),
    (AluForm .and i s v → exec i s = .next (retired i { s with cpu := { s.cpu with
      a := s.cpu.a &&& v, f := flagByte (decide (s.cpu.a &&& v = 0)) false true false } })) ∧
    (AluForm .xor i s v → exec i s = .next (retired i { s with cpu := { s.cpu with
      a := s.cpu.a ^^^ v, f := flagByte (decide (s.cpu.a ^^^ v = 0)) false false false } })) ∧
    (AluForm .or i s v → exec i s = .next (retired i { s with cpu := { s.cpu with
      a := s.cpu.a ||| v, f := flagByte (decide (s.cpu.a ||| v = 0)) false false false } }))

/-- R189, R190, R191, R192: INC and DEC of a register and of the byte at HL; C is kept, and the flags come from v ± 1, not from a
value read back. -/
def Obligations.IncrementDecrement : Prop :=
  (∀ r : Reg8, Row [0b00#2 ++ r.code ++ 0b100#3] (.incR8 (.reg r)) 4 4 ∧ Row [0b00#2 ++ r.code ++ 0b101#3] (.decR8 (.reg r)) 4 4 ∧
    ∀ s : State,
      let v := s.cpu.getReg r
      let c := s.cpu.f.getLsbD 4
      exec (.incR8 (.reg r)) s = .next (retired (.incR8 (.reg r)) { s with cpu := { s.cpu.setReg r (v + 1) with
        f := flagByte (decide (v + 1 = 0)) false (decide (v.toNat % 16 = 15)) c } }) ∧
      exec (.decR8 (.reg r)) s = .next (retired (.decR8 (.reg r)) { s with cpu := { s.cpu.setReg r (v - 1) with
        f := flagByte (decide (v - 1 = 0)) true (decide (v.toNat % 16 = 0)) c } })) ∧
  (Row [0b00110100] .inc_atHL 12 12 ∧ Row [0b00110101] .dec_atHL 12 12 ∧ ∀ s : State,
    let hl := s.cpu.h ++ s.cpu.l
    let v := memRead s hl
    let c := s.cpu.f.getLsbD 4
    exec .inc_atHL s = .next (retired .inc_atHL { memWrite s hl (v + 1) with
      cpu := { s.cpu with f := flagByte (decide (v + 1 = 0)) false (decide (v.toNat % 16 = 15)) c } }) ∧
    exec .dec_atHL s = .next (retired .dec_atHL { memWrite s hl (v - 1) with
      cpu := { s.cpu with f := flagByte (decide (v - 1 = 0)) true (decide (v.toNat % 16 = 0)) c } }))

/-- R193: DAA, both branches; N is kept and H cleared. -/
def Obligations.DecimalAdjust : Prop :=
  Row [0b00100111] .daa 4 4 ∧ ∀ s : State,
    let a := s.cpu.a
    let n := s.cpu.f.getLsbD 6
    let h := s.cpu.f.getLsbD 5
    let c := s.cpu.f.getLsbD 4
    (n = false →
      let high : Bool := c || decide (a.toNat > 0x99)
      let low : Bool := h || decide (a.toNat % 16 > 9)
      let r : Byte := BitVec.ofNat 8 (a.toNat + (if high then 0x60 else 0) + (if low then 0x06 else 0))
      exec .daa s = .next (retired .daa { s with cpu := { s.cpu with a := r, f := flagByte (decide (r = 0)) n false high } })) ∧
    (n = true →
      let r : Byte := BitVec.ofInt 8 ((a.toNat : Int) - (if c then 0x60 else 0) - (if h then 0x06 else 0))
      exec .daa s = .next (retired .daa { s with cpu := { s.cpu with a := r, f := flagByte (decide (r = 0)) n false c } }))

/-- R197: INC and DEC undo each other, and ADD then DAA adds packed decimal numbers below 100, with the carry of the sum. -/
def Obligations.DecimalSumLaw : Prop :=
  (∀ (r : Reg8) (s : State), ∃ t u v w,
    exec (.incR8 (.reg r)) s = .next t ∧ exec (.decR8 (.reg r)) t = .next u ∧ u.cpu.getReg r = s.cpu.getReg r ∧
    exec (.decR8 (.reg r)) s = .next v ∧ exec (.incR8 (.reg r)) v = .next w ∧ w.cpu.getReg r = s.cpu.getReg r) ∧
  (∀ (x y : Nat) (s : State), x < 100 → y < 100 → s.cpu.a = BitVec.ofNat 8 (16 * (x / 10) + x % 10) →
    ∃ t u, exec (.add_a_n (BitVec.ofNat 8 (16 * (y / 10) + y % 10))) s = .next t ∧ exec .daa t = .next u ∧
      u.cpu.a = BitVec.ofNat 8 (16 * ((x + y) % 100 / 10) + (x + y) % 10) ∧ u.cpu.f.getLsbD 4 = decide (100 ≤ x + y))

/-- R194, R195, R196: CPL, SCF and CCF. -/
def Obligations.FlagInstructions : Prop :=
  Row [0b00101111] .cpl 4 4 ∧ Row [0b00110111] .scf 4 4 ∧ Row [0b00111111] .ccf 4 4 ∧ ∀ s : State,
    let z := s.cpu.f.getLsbD 7
    let c := s.cpu.f.getLsbD 4
    exec .cpl s = .next (retired .cpl { s with cpu := { s.cpu with a := s.cpu.a ^^^ 0xFF, f := flagByte z true true c } }) ∧
    exec .scf s = .next (retired .scf { s with cpu := { s.cpu with f := flagByte z false false true } }) ∧
    exec .ccf s = .next (retired .ccf { s with cpu := { s.cpu with f := flagByte z false false (!c) } })

/-! ## 16-bit arithmetic -/

/-- R210, R211, R212: ADD HL,rr with the carries out of bits 11 and 15 and Z kept; INC rr and DEC rr write no flag. -/
def Obligations.PairArithmetic : Prop :=
  ∀ p : Reg16, Row [0b00#2 ++ p.code ++ 0b1001#4] (.addHL p) 8 8 ∧ Row [0b00#2 ++ p.code ++ 0b0011#4] (.incPair p) 8 8 ∧
    Row [0b00#2 ++ p.code ++ 0b1011#4] (.decPair p) 8 8 ∧ ∀ s : State,
      let h : Nat := (s.cpu.h ++ s.cpu.l).toNat
      let v : Nat := (s.cpu.getPair p).toNat
      let r : Word := BitVec.ofNat 16 (h + v)
      exec (.addHL p) s = .next (retired (.addHL p) { s with cpu := { s.cpu with
        h := r.extractLsb' 8 8, l := r.extractLsb' 0 8
        f := flagByte (s.cpu.f.getLsbD 7) false (decide (h % 4096 + v % 4096 > 0xFFF)) (decide (h + v > 0xFFFF)) } }) ∧
      exec (.incPair p) s = .next (retired (.incPair p) { s with cpu := s.cpu.setPair p (s.cpu.getPair p + 1) }) ∧
      exec (.decPair p) s = .next (retired (.decPair p) { s with cpu := s.cpu.setPair p (s.cpu.getPair p - 1) })

/-- R213, R214: SP + e with e signed; H and C come from the unsigned sum of SP's low byte and the raw byte e. -/
def Obligations.StackPointerOffsets : Prop :=
  ∀ e : Byte, Row [0b11101000, e] (.add_sp_e e) 16 16 ∧ Row [0b11111000, e] (.ld_hl_sp_e e) 12 12 ∧ ∀ s : State,
    let sp := s.cpu.sp.toNat
    let r : Word := BitVec.ofInt 16 (sp + e.toInt)
    let f := flagByte false false (decide (sp % 16 + e.toNat % 16 > 15)) (decide (sp % 256 + e.toNat > 255))
    exec (.add_sp_e e) s = .next (retired (.add_sp_e e) { s with cpu := { s.cpu with sp := r, f := f } }) ∧
    exec (.ld_hl_sp_e e) s = .next (retired (.ld_hl_sp_e e) { s with cpu := { s.cpu with
      h := r.extractLsb' 8 8, l := r.extractLsb' 0 8, f := f } })

/-! ## Rotates, shifts and bits -/

/-- R231, R232, R233, R234: the accumulator rotates, for both values of P_ACC_ROTATE_Z. -/
def Obligations.AccumulatorRotates : Prop :=
  Row [0b00000111] .rlca 4 4 ∧ Row [0b00001111] .rrca 4 4 ∧ Row [0b00010111] .rla 4 4 ∧ Row [0b00011111] .rra 4 4 ∧ ∀ s : State,
    let v := s.cpu.a
    let c := BitVec.ofBool (s.cpu.f.getLsbD 4)
    let out (i : Instr) (res : Byte) (bit : Bool) : Result := .next (retired i { s with cpu := { s.cpu with
      a := res, f := flagByte (decide (s.params.accRotateZ = .fromResult) && decide (res = 0)) false false bit } })
    exec .rlca s = out .rlca (v.extractLsb' 0 7 ++ v.extractLsb' 7 1) (v.getLsbD 7) ∧
    exec .rrca s = out .rrca (v.extractLsb' 0 1 ++ v.extractLsb' 1 7) (v.getLsbD 0) ∧
    exec .rla s = out .rla (v.extractLsb' 0 7 ++ c) (v.getLsbD 7) ∧
    exec .rra s = out .rra (c ++ v.extractLsb' 1 7) (v.getLsbD 0)

/-- R235 to R242 with the operand of R230: the eight prefixed rotates and shifts, on a register and on the byte at HL. -/
def Obligations.PrefixedRotates : Prop :=
  (∀ (o : RotOp) (x : R8), Row [0xCB, 0b00#2 ++ o.code ++ x.code] (.rot o x) (if x = .atHL then 16 else 8) (if x = .atHL then 16 else 8)) ∧
  ∀ (s : State) (o : RotOp) (v res : Byte) (out : Bool),
    (let c := BitVec.ofBool (s.cpu.f.getLsbD 4)
     match o with
     | .rlc => res = v.extractLsb' 0 7 ++ v.extractLsb' 7 1 ∧ out = v.getLsbD 7
     | .rrc => res = v.extractLsb' 0 1 ++ v.extractLsb' 1 7 ∧ out = v.getLsbD 0
     | .rl => res = v.extractLsb' 0 7 ++ c ∧ out = v.getLsbD 7
     | .rr => res = c ++ v.extractLsb' 1 7 ∧ out = v.getLsbD 0
     | .sla => res = v.extractLsb' 0 7 ++ 0#1 ∧ out = v.getLsbD 7
     | .sra => res = v.extractLsb' 7 1 ++ v.extractLsb' 1 7 ∧ out = v.getLsbD 0
     | .swap => res = v.extractLsb' 0 4 ++ v.extractLsb' 4 4 ∧ out = false
     | .srl => res = 0#1 ++ v.extractLsb' 1 7 ∧ out = v.getLsbD 0) →
    (∀ r : Reg8, v = s.cpu.getReg r → exec (.rot o (.reg r)) s = .next (retired (.rot o (.reg r)) { s with
      cpu := { s.cpu.setReg r res with f := flagByte (decide (res = 0)) false false out } })) ∧
    (v = memRead s (s.cpu.h ++ s.cpu.l) → exec (.rot o .atHL) s = .next (retired (.rot o .atHL)
      { memWrite s (s.cpu.h ++ s.cpu.l) res with cpu := { s.cpu with f := flagByte (decide (res = 0)) false false out } }))

/-- R260, R261, R262: BIT writes flags alone (C kept, nothing written back); RES and SET change one bit and no flag, and on (HL)
always read and write. -/
def Obligations.BitOperations : Prop :=
  (∀ (b : Idx8) (x : R8), Row [0xCB, 0b01#2 ++ b.code ++ x.code] (.bitTest b x) (if x = .atHL then 12 else 8) (if x = .atHL then 12 else 8) ∧
    Row [0xCB, 0b10#2 ++ b.code ++ x.code] (.bitRes b x) (if x = .atHL then 16 else 8) (if x = .atHL then 16 else 8) ∧
    Row [0xCB, 0b11#2 ++ b.code ++ x.code] (.bitSet b x) (if x = .atHL then 16 else 8) (if x = .atHL then 16 else 8)) ∧
  ∀ (s : State) (b : Idx8),
    let f (v : Byte) : Byte := flagByte (!v.getLsbD b.val) false true (s.cpu.f.getLsbD 4)
    let m := memRead s (s.cpu.h ++ s.cpu.l)
    (∀ r : Reg8,
      let v := s.cpu.getReg r
      exec (.bitTest b (.reg r)) s = .next (retired (.bitTest b (.reg r)) { s with cpu := { s.cpu with f := f v } }) ∧
      exec (.bitRes b (.reg r)) s = .next (retired (.bitRes b (.reg r)) { s with cpu := s.cpu.setReg r (v &&& ~~~(1#8 <<< b.val)) }) ∧
      exec (.bitSet b (.reg r)) s = .next (retired (.bitSet b (.reg r)) { s with cpu := s.cpu.setReg r (v ||| (1#8 <<< b.val)) })) ∧
    exec (.bitTest b .atHL) s = .next (retired (.bitTest b .atHL) { s with cpu := { s.cpu with f := f m } }) ∧
    exec (.bitRes b .atHL) s = .next (retired (.bitRes b .atHL) (memWrite s (s.cpu.h ++ s.cpu.l) (m &&& ~~~(1#8 <<< b.val)))) ∧
    exec (.bitSet b .atHL) s = .next (retired (.bitSet b .atHL) (memWrite s (s.cpu.h ++ s.cpu.l) (m ||| (1#8 <<< b.val))))

/-! ## Control transfer -/

/-- R271 to R275, with the conditions of R270: the jumps write PC alone; a conditional one that is not taken leaves PC at pc_next and costs less. -/
def Obligations.Jumps : Prop :=
  (∀ c : Cpu, c.cond .nz = !c.f.getLsbD 7 ∧ c.cond .z = c.f.getLsbD 7 ∧ c.cond .nc = !c.f.getLsbD 4 ∧ c.cond .c = c.f.getLsbD 4) ∧
  (∀ nn : Word, Row (0b11000011 :: immBytes nn) (.jp_nn nn) 16 16 ∧ ∀ s : State,
    exec (.jp_nn nn) s = .next (retired (.jp_nn nn) { s with cpu := { s.cpu with pc := nn } })) ∧
  (∀ (cc : Cond) (nn : Word), Row ((0b110#3 ++ cc.code ++ 0b010#3) :: immBytes nn) (.jpCond cc nn) 16 12 ∧ ∀ s : State,
    exec (.jpCond cc nn) s = .next (if s.cpu.cond cc then retired (.jpCond cc nn) { s with cpu := { s.cpu with pc := nn } }
      else retiredNotTaken (.jpCond cc nn) s)) ∧
  (Row [0b11101001] .jp_atHL 4 4 ∧ ∀ s : State,
    exec .jp_atHL s = .next (retired .jp_atHL { s with cpu := { s.cpu with pc := s.cpu.h ++ s.cpu.l } })) ∧
  (∀ e : Byte, Row [0b00011000, e] (.jr_e e) 12 12 ∧ ∀ s : State,
    exec (.jr_e e) s = .next (retired (.jr_e e) { s with cpu := { s.cpu with pc := s.cpu.pc + e.signExtend 16 } })) ∧
  (∀ (cc : Cond) (e : Byte), Row [0b001#3 ++ cc.code ++ 0b000#3, e] (.jrCond cc e) 12 8 ∧ ∀ s : State,
    exec (.jrCond cc e) s = .next (if s.cpu.cond cc then
        retired (.jrCond cc e) { s with cpu := { s.cpu with pc := s.cpu.pc + e.signExtend 16 } }
      else retiredNotTaken (.jrCond cc e) s))

/-- R276, R277, R283: a call pushes pc_next and jumps; a call not taken does not touch the stack; RST t goes to 8 t. -/
def Obligations.CallsAndRestarts : Prop :=
  (∀ nn : Word, Row (0b11001101 :: immBytes nn) (.call_nn nn) 24 24 ∧ ∀ s : State,
    exec (.call_nn nn) s = .next (retired (.call_nn nn)
      { pushed s s.cpu.pc with cpu := { s.cpu with sp := s.cpu.sp - 2, pc := nn } })) ∧
  (∀ (cc : Cond) (nn : Word), Row ((0b110#3 ++ cc.code ++ 0b100#3) :: immBytes nn) (.callCond cc nn) 24 12 ∧ ∀ s : State,
    exec (.callCond cc nn) s = .next (if s.cpu.cond cc then
        retired (.callCond cc nn) { pushed s s.cpu.pc with cpu := { s.cpu with sp := s.cpu.sp - 2, pc := nn } }
      else retiredNotTaken (.callCond cc nn) s)) ∧
  (∀ t : Idx8, Row [0b11#2 ++ t.code ++ 0b111#3] (.rst t) 16 16 ∧ ∀ s : State,
    exec (.rst t) s = .next (retired (.rst t)
      { pushed s s.cpu.pc with cpu := { s.cpu with sp := s.cpu.sp - 2, pc := BitVec.ofNat 16 (8 * t.val) } }))

/-- R278, R279, R282: a return takes PC from the stack; RETI also sets IME; a return not taken does not move SP. -/
def Obligations.Returns : Prop :=
  (Row [0b11001001] .ret 16 16 ∧ ∀ s : State,
    exec .ret s = .next (retired .ret { s with cpu := { s.cpu with sp := s.cpu.sp + 2, pc := popped s } })) ∧
  (∀ cc : Cond, Row [0b110#3 ++ cc.code ++ 0b000#3] (.retCond cc) 20 8 ∧ ∀ s : State,
    exec (.retCond cc) s = .next (if s.cpu.cond cc then
        retired (.retCond cc) { s with cpu := { s.cpu with sp := s.cpu.sp + 2, pc := popped s } }
      else retiredNotTaken (.retCond cc) s)) ∧
  (Row [0b11011001] .reti 16 16 ∧ ∀ s : State,
    exec .reti s = .next (retired .reti { s with cpu := { s.cpu with sp := s.cpu.sp + 2, pc := popped s, ime := true } }))

/-! ## System instructions -/

/-- R290 to R294, the instructions' own effects: each changes one control bit of the processor, or nothing. Derived: the byte 0x00 that
stands after STOP in its Row is the model's choice for the byte that R132 ignores (assumption 16); STOP's length is in
FirstByteFixesLength. -/
def Obligations.SystemInstructions : Prop :=
  Row [0b00000000] .nop 4 4 ∧ Row [0b01110110] .halt 4 4 ∧ Row [0b00010000, 0x00] .stop 4 4 ∧ Row [0b11110011] .di 4 4 ∧
  Row [0b11111011] .ei 4 4 ∧ ∀ s : State,
    exec .nop s = .next (retired .nop s) ∧
    exec .halt s = .next (retired .halt { s with cpu := { s.cpu with halted := true } }) ∧
    exec .stop s = .next (retired .stop { s with cpu := { s.cpu with stopped := true } }) ∧
    exec .di s = .next (retired .di { s with cpu := { s.cpu with ime := false } }) ∧
    exec .ei s = .next (retired .ei { s with cpu := { s.cpu with ime := true } })

/-- R295: the prefix fetches b1 at PC and does what the instruction of the extended map does, at that instruction's cost; every b1
is an instruction (R130). -/
def Obligations.PrefixRunsExtendedOpcode : Prop :=
  ∀ (b1 : Byte) (s : State), memRead s s.cpu.pc = b1 →
    decode [0xCB, b1] = .ok (extended b1) ∧
    ∃ t, exec (extended b1) { s with cpu := { s.cpu with pc := s.cpu.pc + 1 } } = .next t ∧ exec .prefix_cb s = .next t

/-! ## Memory -/

/-- What an instruction stores to, and that it stores to nothing else (R64, R77, R102): for every instruction, with the addresses
computed from the state it runs in. Where every store falls on plain storage, every other address reads as before; whatever
it stores to, a byte of plain storage elsewhere reads as before, unless it is OAM and the store starts a DMA copy; and an
instruction that stores nothing leaves memory, devices and ports as they are. For a store to 0xA000-0xBFFF of a cartridge of types 1 to 3,
the second clause rests on the model's form of P_EXTRAM, whose writes change the external RAM alone (assumption 4). With no image loaded,
what an access below 0x8000 or to 0xA000-0xBFFF does is the model's choice (assumption 9). -/
def Obligations.MemoryFrame : Prop :=
  ∀ (i : Instr) (s t : State), exec i s = .next t →
    (∀ x : Word, (∀ a ∈ storeAddrs i s, PlainRam s a) → (∀ a ∈ storeAddrs i s, ¬SameByte a x) → memRead t x = memRead s x) ∧
    (∀ x : Word, PlainRam s x → (∀ a ∈ storeAddrs i s, ¬SameByte a x) →
      (0xFF46 ∉ storeAddrs i s ∨ x.toNat < 0xFE00 ∨ 0xFEA0 ≤ x.toNat) → memRead t x = memRead s x) ∧
    (storeAddrs i s = [] → t.bus = s.bus ∧ t.cart = s.cart ∧ t.irq = s.irq ∧ t.timer = s.timer ∧ t.video = s.video ∧
      t.joypad = s.joypad ∧ t.serial = s.serial)

/-- R64, rows 3, 5, 6, 7 and 10, and R87: a byte of storage reads back what was written to it, at each address that names it, and a
store changes no other address. With no image loaded, that 0xA000-0xBFFF is flat storage too, and what an address below 0x8000 reads, is
the model's choice (assumption 9). -/
def Obligations.StorageReadAfterWrite : Prop :=
  ∀ (s : State) (a x : Word) (v : Byte), PlainRam s a →
    memRead (memWrite s a v) a = v ∧ (SameByte a x → memRead (memWrite s a v) x = v) ∧
    (¬SameByte a x → memRead (memWrite s a v) x = memRead s x)

/-- R73, the read column (JOYP apart, see JoypadPort), and R31: what each I/O register and IE read as. -/
def Obligations.IoReads : Prop :=
  ∀ s : State,
    memRead s 0xFF01 = s.serial.sb ∧ memRead s 0xFF02 = s.serial.sc ∧ memRead s 0xFF04 = s.timer.div ∧
    memRead s 0xFF05 = s.timer.tima ∧ memRead s 0xFF06 = s.timer.tma ∧ memRead s 0xFF07 = 0xF8 ||| s.timer.tac.setWidth 8 ∧
    memRead s 0xFF0F = 0xE0 ||| s.irq.ifl.setWidth 8 ∧ memRead s 0xFF40 = s.video.lcdc ∧
    memRead s 0xFF41 = 0x80 ||| (s.video.statw.setWidth 8 <<< 3) ||| (if s.video.coinc then 4 else 0) |||
      (match s.video.mode with | .hblank => 0 | .vblank => 1 | .oamScan => 2 | .drawing => 3) ∧
    memRead s 0xFF42 = s.video.scy ∧ memRead s 0xFF43 = s.video.scx ∧ memRead s 0xFF44 = s.video.ly ∧ memRead s 0xFF45 = s.video.lyc ∧
    memRead s 0xFF46 = s.bus.dma ∧ memRead s 0xFF47 = s.video.bgp ∧ memRead s 0xFF48 = s.video.obp0 ∧ memRead s 0xFF49 = s.video.obp1 ∧
    memRead s 0xFF4A = s.video.wy ∧ memRead s 0xFF4B = s.video.wx ∧ memRead s 0xFF50 = 0xFF ∧ memRead s 0xFFFF = s.irq.ie.setWidth 8

/-- R73, the write column (LCDC and DMA apart, see LcdcWrite and OamDma), R31 and R375: each write stores what it stores and
changes nothing else. -/
def Obligations.IoWrites : Prop :=
  ∀ (s : State) (v : Byte),
    memWrite s 0xFF00 v = { s with joypad := { s.joypad with jsel := v.extractLsb' 4 2 } } ∧
    memWrite s 0xFF01 v = { s with serial := { s.serial with sb := v } } ∧
    memWrite s 0xFF02 v = { s with serial := { s.serial with sc := v, log := s.serial.log ++ (if v = 0x81 then [s.serial.sb] else []) } } ∧
    memWrite s 0xFF04 v = { s with timer := { s.timer with div := 0, dsub := 0 } } ∧
    memWrite s 0xFF05 v = { s with timer := { s.timer with tima := v } } ∧
    memWrite s 0xFF06 v = { s with timer := { s.timer with tma := v } } ∧
    memWrite s 0xFF07 v = { s with timer := { s.timer with tac := v.extractLsb' 0 3 } } ∧
    memWrite s 0xFF0F v = { s with irq := { s.irq with ifl := v.extractLsb' 0 5 } } ∧
    memWrite s 0xFF41 v = { s with video := { s.video with statw := v.extractLsb' 3 4 } } ∧
    memWrite s 0xFF42 v = { s with video := { s.video with scy := v } } ∧ memWrite s 0xFF43 v = { s with video := { s.video with scx := v } } ∧
    memWrite s 0xFF44 v = s ∧ memWrite s 0xFF45 v = { s with video := { s.video with lyc := v } } ∧
    memWrite s 0xFF47 v = { s with video := { s.video with bgp := v } } ∧ memWrite s 0xFF48 v = { s with video := { s.video with obp0 := v } } ∧
    memWrite s 0xFF49 v = { s with video := { s.video with obp1 := v } } ∧ memWrite s 0xFF4A v = { s with video := { s.video with wy := v } } ∧
    memWrite s 0xFF4B v = { s with video := { s.video with wx := v } } ∧
    memWrite s 0xFF50 v = { s with bus := { s.bus with overlay := false } } ∧
    memWrite s 0xFFFF v = { s with irq := { s.irq with ie := v.extractLsb' 0 5 } }

/-- R74: an unmapped address reads 0xFF and a write to it changes nothing. -/
def Obligations.UnmappedAccess : Prop :=
  ∀ (s : State) (a : Word) (v : Byte),
    (0xFEA0 ≤ a.toNat ∧ a.toNat ≤ 0xFEFF) ∨ a = 0xFF03 ∨ (0xFF08 ≤ a.toNat ∧ a.toNat ≤ 0xFF0E) ∨
      (0xFF10 ≤ a.toNat ∧ a.toNat ≤ 0xFF3F) ∨ (0xFF4C ≤ a.toNat ∧ a.toNat ≤ 0xFF4F) ∨ (0xFF51 ≤ a.toNat ∧ a.toNat ≤ 0xFF7F) →
    memRead s a = 0xFF ∧ memWrite s a v = s

/-- R95: a write to 0xFF46 stores the value and copies 160 bytes from value · 256 into OAM, each read through the decoder with the
value already stored; nothing else changes. -/
def Obligations.OamDma : Prop :=
  ∀ (s : State) (v : Byte),
    memWrite s 0xFF46 v = { s with bus := { s.bus with dma := v, oam := (memWrite s 0xFF46 v).bus.oam } } ∧
    ∀ i : Nat, i < 160 → Memory.get (memWrite s 0xFF46 v).bus.oam i =
      memRead { s with bus := { s.bus with dma := v } } (BitVec.ofNat 16 (256 * v.toNat + i))

/-- R89 to R93: the controller registers, for both values of P_MBC1_MODE_WRITE; with no controller a write below 0x8000 is
discarded. Derived: the first clause includes the empty slot, for which the spec gives no behaviour; that it discards the write as type 0
does is the model's choice (assumption 9). -/
def Obligations.CartridgeController : Prop :=
  ∀ (s : State) (a : Word) (v : Byte), a.toNat < 0x8000 →
    let skip (b : Nat) : BitVec 7 := BitVec.ofNat 7 (if b % 32 = 0 then b + 1 else b)
    let old := s.cart.romBank.toNat
    (s.cart.banked = false → memWrite s a v = s) ∧
    (s.cart.banked = true →
      (a.toNat < 0x2000 → memWrite s a v = { s with cart := { s.cart with ramEnable := decide (v.toNat % 16 = 10) } }) ∧
      (0x2000 ≤ a.toNat → a.toNat < 0x4000 →
        memWrite s a v = { s with cart := { s.cart with romBank := skip (32 * (old / 32) + v.toNat % 32) } }) ∧
      (0x4000 ≤ a.toNat → a.toNat < 0x6000 → s.cart.bankMode = false →
        memWrite s a v = { s with cart := { s.cart with romBank := skip (32 * (v.toNat % 4) + old % 32) } }) ∧
      (0x4000 ≤ a.toNat → a.toNat < 0x6000 → s.cart.bankMode = true →
        memWrite s a v = { s with cart := { s.cart with ramBank := v.extractLsb' 0 2 } }) ∧
      (0x6000 ≤ a.toNat → s.params.mbc1ModeWrite = .bit0 →
        memWrite s a v = { s with cart := { s.cart with bankMode := v.getLsbD 0 } }) ∧
      (0x6000 ≤ a.toNat → s.params.mbc1ModeWrite = .toggle →
        memWrite s a v = { s with cart := { s.cart with bankMode := !s.cart.bankMode } }))

/-- R86, under the overlay of R42: what an address below 0x8000 reads: the boot buffer under the overlay, the image's own byte, or the byte of the
selected bank. -/
def Obligations.RomReads : Prop :=
  ∀ (s : State) (im : Image) (a : Word), s.cart.image = some im → a.toNat < 0x8000 →
    (s.bus.overlay = true → a.toNat < 0x100 → memRead s a = Memory.get s.bus.boot a.toNat) ∧
    (s.bus.overlay = false ∨ 0x100 ≤ a.toNat →
      (Memory.get im.bytes 0x147 = 0 ∨ a.toNat < 0x4000 → memRead s a = Memory.get im.bytes a.toNat) ∧
      (Memory.get im.bytes 0x147 ≠ 0 → 0x4000 ≤ a.toNat →
        memRead s a = Memory.get im.bytes (s.cart.romBank.toNat % (im.size / 0x4000) * 0x4000 + (a.toNat - 0x4000))))

/-- R42 and R96, over whole steps: no step turns the overlay on, and no step changes the boot buffer, the image, the buttons or the
breakpoints. Derived from 10_state.md, section 8, and 20_memory.md, section 7. -/
def Obligations.OverlayOneWay : Prop :=
  ∀ s t : State, step s = .next t → (t.bus.overlay = true → s.bus.overlay = true) ∧ t.bus.boot = s.bus.boot ∧
    t.cart.image = s.cart.image ∧ t.joypad.buttons = s.joypad.buttons ∧ t.sys.breakpoints = s.sys.breakpoints ∧ t.params = s.params

/-! ## Devices -/

/-- R358: the LCDC write. Clearing the display-enable bit resets the unit and whites out both frames; setting it restarts the unit
in mode 2; any other write stores the byte alone. -/
def Obligations.LcdcWrite : Prop :=
  ∀ (s : State) (v : Byte),
    let on := s.video.lcdc.getLsbD 7
    let on' := v.getLsbD 7
    (on = true → on' = false → ∃ t, memWrite s 0xFF40 v = t ∧
      t = { s with video := { s.video with
        lcdc := v, mode := .hblank, vclock := 0, ly := 0, fbWork := t.video.fbWork, fbOut := t.video.fbOut } } ∧
      ∀ y x : Nat, Frame.pixel s.params.shades t.video.fbWork y x = s.params.shades.s0 ∧ framebuffer t y x = s.params.shades.s0) ∧
    (on = false → on' = true → memWrite s 0xFF40 v = { s with video := { s.video with lcdc := v, mode := .oamScan, vclock := 0, ly := 0 } }) ∧
    (on = on' → memWrite s 0xFF40 v = { s with video := { s.video with lcdc := v } })

/-- R370, R371, R372: what FF00 reads (with neither or both rows selected, a free value), and what the host's presses and releases
do: only a new press requests the interrupt. Derived: that the calls have their effect on a faulted machine too is the model's choice
(assumption 28). -/
def Obligations.JoypadPort : Prop :=
  (∀ s : State,
    let b := s.joypad.buttons
    let bit (pressed : Bool) (k : Nat) : Byte := if pressed then 0 else 1#8 <<< k
    (s.joypad.jsel = 0b10 → memRead s 0xFF00 = 0xE0 ||| bit b.down 3 ||| bit b.up 2 ||| bit b.left 1 ||| bit b.right 0) ∧
    (s.joypad.jsel = 0b01 → memRead s 0xFF00 = 0xD0 ||| bit b.start 3 ||| bit b.select 2 ||| bit b.b 1 ||| bit b.a 0) ∧
    (s.joypad.jsel = 0b11 → memRead s 0xFF00 = Config.joypNone) ∧
    (s.joypad.jsel = 0b00 → memRead s 0xFF00 = Config.joypBoth)) ∧
  (∀ (k : Button) (s : State),
    (s.joypad.buttons.get k = false → setButton k true s = { s with
      joypad := { s.joypad with buttons := s.joypad.buttons.put k true }
      irq := { s.irq with ifl := s.irq.ifl ||| 0b10000 } }) ∧
    (s.joypad.buttons.get k = true → setButton k true s = s) ∧
    setButton k false s = { s with joypad := { s.joypad with buttons := s.joypad.buttons.put k false } }) ∧
  (∀ (k j : Button) (b : Buttons) (v : Bool), (b.put k v).get j = if j = k then v else b.get j)

/-- R323 and R324, with R322's order 0, 1, 2, 4: the interrupt pass, over all pending and enabled bits. -/
def Obligations.InterruptPass : Prop :=
  ∀ s : State,
    let p := s.irq.ifl &&& s.irq.ie
    (s.cpu.ime = true → p.getLsbD 0 = true → evaluate s = dispatched s 0 0x0040) ∧
    (s.cpu.ime = true → p.getLsbD 0 = false → p.getLsbD 1 = true → evaluate s = dispatched s 1 0x0048) ∧
    (s.cpu.ime = true → p.getLsbD 0 = false → p.getLsbD 1 = false → p.getLsbD 2 = true → evaluate s = dispatched s 2 0x0050) ∧
    (s.cpu.ime = true → p.getLsbD 0 = false → p.getLsbD 1 = false → p.getLsbD 2 = false → p.getLsbD 4 = true →
      evaluate s = dispatched s 4 0x0060) ∧
    (s.cpu.ime = true → p &&& 0b10111 = 0 → evaluate s = s) ∧
    (s.cpu.ime = false → p ≠ 0 → s.cpu.halted = true → evaluate s = { s with cpu := { s.cpu with halted := false } }) ∧
    (s.cpu.ime = false → p = 0 ∨ s.cpu.halted = false → evaluate s = s)

/-- R382: one step dispatches at most one interrupt, so it charges 0 or 16 t, and its cost is the instruction's (or the idle's)
and that. -/
def Obligations.AtMostOneDispatchPerStep : Prop :=
  ∀ s t : State, step s = .next t → (t.sys.dispatchT = 0 ∨ t.sys.dispatchT = 16) ∧
    (t.sys.dispatchT = 16 → t.cpu.ime = false) ∧
    (t.sys.fault = none → t.sys.stepT = (if s.cpu.halted then 4 else t.sys.cycles) + t.sys.dispatchT)

/-- R29 over all instructions: only EI, RETI and DI write IME, and each to one value; no store reaches it. Derived from 10_state.md,
section 4, and 46_system.md (R297). -/
def Obligations.ImeWriters : Prop :=
  ∀ (i : Instr) (s t : State), exec i s = .next t →
    t.cpu.ime = if i = .ei ∨ i = .reti then true else if i = .di then false else s.cpu.ime

/-- R341: DIV counts every 16 ticks of P_TIMER_TICK_T t-cycles, modulo 256, whatever TAC holds. -/
def Obligations.DividerRate : Prop :=
  ∀ (s : State) (k : Nat), 0 < s.params.timerTick → s.timer.tsub = 0 → s.timer.dsub = 0 →
    (timerAdvance (16 * s.params.timerTick * k) s).timer.div = s.timer.div + BitVec.ofNat 8 k ∧
    (timerAdvance (16 * s.params.timerTick * k) s).timer.tsub = 0 ∧ (timerAdvance (16 * s.params.timerTick * k) s).timer.dsub = 0

/-- R342, R343: with TAC enabled, TIMA counts once in the selector's number of ticks and not before; from 0xFF it takes TMA and
requests the Timer interrupt; with TAC disabled it does not count. -/
def Obligations.CounterRate : Prop :=
  ∀ (s : State) (n : Nat), 0 < s.params.timerTick → s.timer.tsub = 0 →
    let thr : Nat := match (s.timer.tac.setWidth 2).toNat with | 0 => 64 | 1 => 1 | 2 => 4 | _ => 16
    (s.timer.tac.getLsbD 2 = true → s.timer.tacc = 0 →
      (n < thr * s.params.timerTick → (timerAdvance n s).timer.tima = s.timer.tima ∧ (timerAdvance n s).irq = s.irq) ∧
      (s.timer.tima ≠ 0xFF → (timerAdvance (thr * s.params.timerTick) s).timer.tima = s.timer.tima + 1 ∧
        (timerAdvance (thr * s.params.timerTick) s).irq = s.irq) ∧
      (s.timer.tima = 0xFF → (timerAdvance (thr * s.params.timerTick) s).timer.tima = s.timer.tma ∧
        (timerAdvance (thr * s.params.timerTick) s).irq = { s.irq with ifl := s.irq.ifl ||| 0b00100 })) ∧
    (s.timer.tac.getLsbD 2 = false → (timerAdvance n s).timer.tima = s.timer.tima ∧ (timerAdvance n s).timer.tacc = s.timer.tacc ∧
      (timerAdvance n s).irq = s.irq)

/-- R351, R352, R353, R360 and the source's own test (E9): a visible line passes through modes 2, 3 and 0 in 80, 172 and 204 t, then LY
is one more; the processor, the memories and the requests are untouched. Row LY is rendered at the transition from Drawing to HBlank
and at no other time: the background pass, then the window pass, then the sprite pass, from VRAM, OAM and the registers of that
moment; the first clause says so of every line, the last visible one too. -/
def Obligations.VisibleLine : Prop :=
  (∀ s : State, s.video.mode = .drawing → s.video.vclock = 171 →
    videoCycle s = { s with
      video := renderedRow s.params.shades s.bus.vram s.bus.oam s.video.ly.toNat { s.video with mode := .hblank, vclock := 0 } }) ∧
  ∀ s : State, s.video.mode = .oamScan → s.video.vclock = 0 → s.video.ly.toNat < 143 →
    let w := renderedRow s.params.shades s.bus.vram s.bus.oam s.video.ly.toNat { s.video with mode := .hblank, vclock := 0 }
    (∀ n, n < 252 → (videoCycles n s).video.fbWork = s.video.fbWork ∧ (videoCycles n s).video.bgidx = s.video.bgidx) ∧
    (∀ n, 252 ≤ n → n ≤ 456 → (videoCycles n s).video.fbWork = w.fbWork ∧ (videoCycles n s).video.bgidx = w.bgidx) ∧
    (∀ n, n < 80 → (videoCycles n s).video.mode = .oamScan ∧ (videoCycles n s).video.ly = s.video.ly) ∧
    (∀ n, 80 ≤ n → n < 252 → (videoCycles n s).video.mode = .drawing ∧ (videoCycles n s).video.ly = s.video.ly) ∧
    (∀ n, 252 ≤ n → n < 456 → (videoCycles n s).video.mode = .hblank ∧ (videoCycles n s).video.ly = s.video.ly) ∧
    (videoCycles 456 s).video.mode = .oamScan ∧ (videoCycles 456 s).video.ly = s.video.ly + 1 ∧ (videoCycles 456 s).video.vclock = 0 ∧
    ∀ n, n ≤ 456 → (videoCycles n s).cpu = s.cpu ∧ (videoCycles n s).bus = s.bus ∧ (videoCycles n s).irq = s.irq ∧
      (videoCycles n s).video.fbOut = s.video.fbOut

/-- R351, R353, R354, R325: a frame is 70224 t. The one cycle that enters VBlank (the last of line 143) makes the requests, presents
the frame and runs an interrupt pass at once, whatever IME is; no other cycle, from any state, requests anything or touches the
processor. From the start of line 0 that cycle is the 65664th of the 70224. Where it dispatches nothing the unit is back at the
start after the frame, and the frame the host reads is the frame it rendered; with IME = 1 and VBlank enabled it dispatches VBlank. -/
def Obligations.WholeFrame : Prop :=
  let entering (u : Video) : Prop := u.mode = .hblank ∧ u.vclock = 203 ∧ u.ly = 143
  let entered (u : State) : State := { u with
    video := { u.video with mode := .vblank, vclock := 0, ly := 144, fbOut := u.video.fbWork }
    irq := { u.irq with ifl := u.irq.ifl ||| 0b00001 ||| (if u.video.statw.getLsbD 1 then 0b00010 else 0) } }
  (∀ u : State, entering u.video → videoCycle u = evaluate (entered u)) ∧
  (∀ u : State, ¬entering u.video → (videoCycle u).irq = u.irq ∧ (videoCycle u).cpu = u.cpu ∧ (videoCycle u).bus = u.bus ∧
    (videoCycle u).video.fbOut = u.video.fbOut) ∧
  ∀ s : State, s.video.mode = .oamScan → s.video.vclock = 0 → s.video.ly = 0 →
   (s.cpu.ime = true → s.irq.ie.getLsbD 0 = true →
    videoCycles 65664 s = dispatched (entered (videoCycles 65663 s)) 0 0x0040 ∧ (videoCycles 65663 s).irq = s.irq) ∧
   (s.cpu.ime = false ∨ (s.irq.ifl ||| 0b00011) &&& s.irq.ie &&& 0b10111 = 0 →
    let t := videoCycles 70224 s
    (∀ n, n < 70224 → (entering (videoCycles n s).video ↔ n = 65663)) ∧
    t.video.mode = .oamScan ∧ t.video.vclock = 0 ∧ t.video.ly = 0 ∧ t.video.fbOut = t.video.fbWork ∧
    t.irq = { s.irq with ifl := s.irq.ifl ||| 0b00001 ||| (if s.video.statw.getLsbD 1 then 0b00010 else 0) } ∧
    t.bus = s.bus ∧ t.timer = s.timer ∧ t.cpu = { s.cpu with halted := t.cpu.halted })

/-- R356, R350: the compare at the end of an advance, and that a disabled unit does nothing. Derived: that LCDC[7] is tested at the start of
the advance alone, so that the rest of its cycles and the compare still run where a VBlank dispatch inside it clears LCDC[7], is the
model's reading of R350 (assumption 14). -/
def Obligations.LineCompare : Prop :=
  (∀ (s : State) (n : Nat), s.video.lcdc.getLsbD 7 = false → videoAdvance n s = s) ∧
  (∀ (s : State) (n : Nat), s.video.lcdc.getLsbD 7 = true →
    let t := videoCycles n s
    (t.video.ly = t.video.lyc → videoAdvance n s = { t with
      video := { t.video with coinc := true }
      irq := { t.irq with ifl := t.irq.ifl ||| (if t.video.statw.getLsbD 3 then 0b00010 else 0) } }) ∧
    (t.video.ly ≠ t.video.lyc → videoAdvance n s = { t with video := { t.video with coinc := false } }))

/-- R362, R363, R364, R366: every pixel of row y after the background and the window pass, and every background index; the other
rows are kept. -/
def Obligations.BackgroundAndWindow : Prop :=
  ∀ (sh : Config.Shades) (vram : Memory) (u : Video) (y x : Nat), y < 144 → x < 160 →
    let byte (a : Nat) : Byte := Memory.get vram (a - 0x8000)
    let ci (base px py : Nat) : BitVec 2 :=
      let t := byte (base + 32 * (py / 8) + px / 8)
      let ta : Nat := if u.lcdc.getLsbD 4 then 0x8000 + 16 * t.toNat else (0x9000 + 16 * t.toInt).toNat
      BitVec.ofBool ((byte (ta + 2 * (py % 8) + 1)).getLsbD (7 - px % 8)) ++ BitVec.ofBool ((byte (ta + 2 * (py % 8))).getLsbD (7 - px % 8))
    let bg : BitVec 2 := ci (if u.lcdc.getLsbD 3 then 0x9C00 else 0x9800) ((x + u.scx.toNat) % 256) ((y + u.scy.toNat) % 256)
    let win : BitVec 2 := ci (if u.lcdc.getLsbD 6 then 0x9C00 else 0x9800) (x + 7 - u.wx.toNat) (y - u.wy.toNat)
    let w := windowPass sh vram y (backgroundPass sh vram y u)
    let shown : Prop := u.lcdc.getLsbD 5 = true ∧ u.wy.toNat ≤ y ∧ u.wx.toNat ≤ x + 7
    (shown → Sparse.get 0 w.bgidx x = win ∧ Frame.pixel sh w.fbWork y x = shade sh u.bgp win) ∧
    (¬shown → u.lcdc.getLsbD 0 = true → Sparse.get 0 w.bgidx x = bg ∧ Frame.pixel sh w.fbWork y x = shade sh u.bgp bg) ∧
    (¬shown → u.lcdc.getLsbD 0 = false → Sparse.get 0 w.bgidx x = 0 ∧ Frame.pixel sh w.fbWork y x = sh.s0) ∧
    (∀ y' x' : Nat, x' < 160 → y' ≠ y → Frame.pixel sh w.fbWork y' x' = Frame.pixel sh u.fbWork y' x')

/-- R365: a pixel of row y after the sprite pass is what the last OAM entry that draws at its column gives, or what it was; the
pass changes nothing but row y. -/
def Obligations.SpritePass : Prop :=
  ∀ (sh : Config.Shades) (vram oam : Memory) (u : Video) (y x : Nat), x < 160 →
    let w := spritePass sh vram oam y u
    w = { u with fbWork := w.fbWork } ∧
    Frame.pixel sh w.fbWork y x =
      (if u.lcdc.getLsbD 1 then (List.range 40).foldl (fun p i => (spriteDraws sh vram oam u y x i).getD p) (Frame.pixel sh u.fbWork y x)
        else Frame.pixel sh u.fbWork y x) ∧
    ∀ y' : Nat, y' ≠ y → Frame.pixel sh w.fbWork y' x = Frame.pixel sh u.fbWork y' x

/-! ## The whole machine -/

/-- The invariant holds at reset. -/
def Obligations.InvariantHoldsAtReset : Prop := MachineInv State.reset

/-- The invariant (F's low nibble is zero, R24; every memory keeps its canonical form and size; LY, the mode and the video clock agree,
R41, R352, R353; the timer's counters stay in range, R40; the bank number is never a multiple of 0x20, R45) is kept by every step and
by every call of the host: reset, setButton, load, loadBoot, resume, addBreakpoint, removeBreakpoint, and runFrame however it ends
(framebuffer and snapshot leave no state). Derived from those rules. -/
def Obligations.StepKeepsInvariant : Prop :=
  (∀ s t : State, MachineInv s → step s = .next t → MachineInv t) ∧
  (∀ s : State, MachineInv s → MachineInv (hostReset s)) ∧ (∀ (k : Button) (v : Bool) (s : State), MachineInv s → MachineInv (setButton k v s)) ∧
  (∀ (im : Image) (s t : State), MachineInv s → Memory.ok im.size im.bytes = true → load im s = .success t → MachineInv t) ∧
  (∀ (bytes : Nat → Byte) (s : State), MachineInv s → MachineInv (loadBoot bytes s)) ∧
  (∀ s : State, MachineInv s → MachineInv (resume s)) ∧
  (∀ (pc : Word) (s : State), MachineInv s → MachineInv (addBreakpoint pc s) ∧ MachineInv (removeBreakpoint pc s)) ∧
  (∀ s t : State, MachineInv s → runFrame s = .frameDone t ∨ runFrame s = .stopped t ∨ (∃ pc, runFrame s = .breakpointHit pc t) ∨
    (∃ e, runFrame s = .faulted e t) → MachineInv t)

/-- R24 over all instructions: "the low nibble of F is always zero". -/
def Obligations.FlagLowNibbleIsZero : Prop :=
  ∀ (i : Instr) (s t : State), exec i s = .next t → s.cpu.f.extractLsb' 0 4 = 0 → t.cpu.f.extractLsb' 0 4 = 0

/-- R400 with R50's table: what reset() leaves in PostBoot mode, and the exceptions in BootRom mode. Every other value of a BootRom
reset is a draw (assumption 8). -/
def Obligations.ResetLeaves : Prop :=
  (∀ s : State, s.params.bootMode = .postBoot →
    let t := hostReset s
    let io := s.params.resetIo
    t.cpu.a = 0x01 ∧ t.cpu.f = 0x90 ∧ t.cpu.b ++ t.cpu.c = 0x0013#16 ∧ t.cpu.d ++ t.cpu.e = 0x00D8#16 ∧ t.cpu.h ++ t.cpu.l = 0x014D#16 ∧
    t.cpu.sp = 0xFFFE ∧ t.cpu.pc = 0x0100 ∧ t.cpu.ime = io.ime ∧ t.bus.overlay = false ∧
    t.irq = ⟨io.ifl, io.ie⟩ ∧ t.timer = ⟨io.div, io.tima, io.tma, io.tac, 0, 0, 0⟩ ∧
    t.video.lcdc = io.lcdc ∧ t.video.statw = io.statw ∧ (t.video.coinc = true ↔ io.lyc = 0) ∧ t.video.ly = 0 ∧ t.video.vclock = 0 ∧
    t.video.mode = (if io.lcdc.getLsbD 7 then .oamScan else .hblank) ∧ t.video.scy = io.scy ∧ t.video.scx = io.scx ∧
    t.video.lyc = io.lyc ∧ t.video.wy = io.wy ∧ t.video.wx = io.wx ∧ t.video.bgp = io.bgp ∧ t.video.obp0 = io.obp0 ∧
    t.video.obp1 = io.obp1 ∧ t.bus.dma = io.dma ∧ t.joypad.jsel = io.jsel ∧ t.serial.sb = io.sb ∧ t.serial.sc = io.sc) ∧
  (∀ s : State, s.params.bootMode = .bootRom →
    let t := hostReset s
    t.cpu.pc = 0x0000 ∧ t.bus.overlay = true ∧ t.cpu.ime = false) ∧
  (∀ s : State,
    let t := hostReset s
    t.cpu.halted = false ∧ t.cpu.stopped = false ∧ t.sys.fault = none ∧ t.sys.frameT = 0 ∧ t.sys.dispatchT = 0 ∧
    t.video.ly = 0 ∧ t.video.vclock = 0 ∧ t.video.mode = (if t.video.lcdc.getLsbD 7 then .oamScan else .hblank) ∧
    (t.video.coinc = true ↔ t.video.lyc = 0) ∧ t.timer.tsub = 0 ∧ t.timer.dsub = 0 ∧ t.timer.tacc = 0 ∧
    t.cart = ⟨s.cart.image, 1, 0, false, false⟩ ∧ (∀ k, t.joypad.buttons.get k = false) ∧
    (∀ y x, Frame.pixel t.params.shades t.video.fbWork y x = t.params.shades.s0 ∧ framebuffer t y x = t.params.shades.s0) ∧
    t.bus.vram = s.bus.vram ∧ t.bus.wram = s.bus.wram ∧ t.bus.hram = s.bus.hram ∧ t.bus.oam = s.bus.oam ∧
    t.bus.extram = s.bus.extram ∧ t.bus.boot = s.bus.boot ∧ t.sys.breakpoints = s.sys.breakpoints ∧ t.serial.log = s.serial.log ∧
    t.params = s.params)

/-- R390, R395, R396, R397. load() takes an image of a valid length and type, sets the controller registers, and changes nothing else;
on an error nothing changes (its answer carries no state). loadBoot() fills the boot buffer, addBreakpoint() and removeBreakpoint() add an
address to the set and remove it, resume() clears `stopped`, and none of them changes anything else. snapshot() gives the registers, the flags
and the device registers, STAT as read. Derived: that the calls have their effect on a faulted machine too is the model's choice
(assumption 28). -/
def Obligations.HostCallResults : Prop :=
  (∀ s : State, resume s = { s with cpu := { s.cpu with stopped := false } }) ∧
  (∀ (pc : Word) (s : State),
    addBreakpoint pc s = { s with sys := { s.sys with breakpoints := (addBreakpoint pc s).sys.breakpoints } } ∧
    removeBreakpoint pc s = { s with sys := { s.sys with breakpoints := (removeBreakpoint pc s).sys.breakpoints } } ∧
    ∀ q : Word, (q ∈ (addBreakpoint pc s).sys.breakpoints ↔ q = pc ∨ q ∈ s.sys.breakpoints) ∧
      (q ∈ (removeBreakpoint pc s).sys.breakpoints ↔ q ≠ pc ∧ q ∈ s.sys.breakpoints)) ∧
  (∀ s : State,
    let c := s.cpu
    let v := s.video
    let t := s.timer
    snapshot s = {
      a := c.a, f := c.f, b := c.b, c := c.c, d := c.d, e := c.e, h := c.h, l := c.l, sp := c.sp, pc := c.pc
      flags := { z := c.f.getLsbD 7, n := c.f.getLsbD 6, h := c.f.getLsbD 5, c := c.f.getLsbD 4 }
      ime := c.ime, halted := c.halted, stopped := c.stopped, ifl := s.irq.ifl, ie := s.irq.ie
      lcdc := v.lcdc, stat := memRead s 0xFF41, scy := v.scy, scx := v.scx, ly := v.ly, lyc := v.lyc, wy := v.wy, wx := v.wx
      bgp := v.bgp, obp0 := v.obp0, obp1 := v.obp1, div := t.div, tima := t.tima, tma := t.tma, tac := t.tac, fault := s.sys.fault }) ∧
  ∀ (im : Image) (s : State),
    ((∃ n, n ≤ 8 ∧ im.size = 32768 * 2 ^ n) ∧ (Memory.get im.bytes 0x147).toNat ≤ 3 →
      load im s = .success { s with cart := ⟨some im, 1, 0, false, false⟩ }) ∧
    (¬((∃ n, n ≤ 8 ∧ im.size = 32768 * 2 ^ n) ∧ (Memory.get im.bytes 0x147).toNat ≤ 3) → load im s = .invalidCartridgeError) ∧
    ∀ bytes : Nat → Byte, loadBoot bytes s = { s with bus := { s.bus with boot := (loadBoot bytes s).bus.boot } } ∧
      ∀ i : Nat, i < 256 → Memory.get (loadBoot bytes s).bus.boot i = bytes i

/-- R392, R384, R385: how runFrame ends. Done means that the budget of 70224 t is spent; a breakpoint hit stands before the
instruction at that address, after at least one step of the call: the first step is made without the check, so it runs at a breakpoint
too. A stopped or faulted machine makes no step; a call that ends stopped or faulted leaves a machine that is stopped inside the budget, or
that holds the fault it answers. -/
def Obligations.RunFrameEnds : Prop :=
  ∀ s : State, MachineInv s →
    (∀ t, runFrame s = .frameDone t → 70224 ≤ t.sys.frameT) ∧
    (∀ pc t, runFrame s = .breakpointHit pc t → t.cpu.pc = pc ∧ pc ∈ s.sys.breakpoints ∧ t.cpu.halted = false ∧ t.sys.frameT < 70224 ∧
      0 < t.sys.frameT) ∧
    (∀ e t, runFrame s = .faulted e t → t.sys.fault = some e) ∧
    (∀ t, runFrame s = .stopped t → t.cpu.stopped = true ∧ t.sys.frameT < 70224) ∧
    (∀ u e, s.sys.fault = none → step { s with sys := { s.sys with frameT := 0 } } = .next u → u.sys.fault = some e →
      runFrame s = .faulted e u) ∧
    (∀ e, s.sys.fault = some e → runFrame s = .faulted e s) ∧
    (s.sys.fault = none → s.cpu.stopped = true → runFrame s = .stopped { s with sys := { s.sys with frameT := 0 } }) ∧
    (s.cart.image ≠ none → ∀ r, runFrame s ≠ .refused r)

end
end

