-- ==== Sys2Proof/Laws/Memory.lean ====
section
/-! SUPPORT. The laws of the sparse maps. Reading after writing holds of every list, canonical or not; the second group says that
the operations keep the canonical form and the bound on the keys. -/

namespace Sys2Proof.Machine

namespace Sparse

variable {α : Type}

/-! ## Reading after writing -/

theorem get_erase_self (d : α) (m : List (Nat × α)) (k : Nat) : get d (erase m k) k = d := by
  induction m with
  | nil => rfl
  | cons c m ih =>
    by_cases h : k = c.1
    · simpa only [erase, h, if_true] using h ▸ ih
    · simpa only [erase, if_neg h, get] using ih

theorem get_erase_other (d : α) (m : List (Nat × α)) {j k : Nat} (h : j ≠ k) : get d (erase m k) j = get d m j := by
  induction m with
  | nil => rfl
  | cons c m ih =>
    by_cases hk : k = c.1
    · have hj : j ≠ c.1 := hk ▸ h
      simpa only [erase, if_pos hk, get, if_neg hj] using ih
    · simp only [erase, if_neg hk, get, ih]

theorem erase_no_key (m : List (Nat × α)) (k : Nat) : ∀ c ∈ erase m k, c.1 ≠ k := by
  induction m with
  | nil => simp [erase]
  | cons c m ih =>
    by_cases hk : k = c.1
    · simpa only [erase, if_pos hk] using ih
    · intro x hx
      simp only [erase, if_neg hk, List.mem_cons] at hx
      rcases hx with rfl | hx
      · exact fun e => hk e.symm
      · exact ih x hx

theorem get_insert_self (d : α) (m : List (Nat × α)) (k : Nat) (v : α) (hm : ∀ c ∈ m, c.1 ≠ k) :
    get d (insert m k v) k = v := by
  induction m with
  | nil => simp [insert, get]
  | cons c m ih =>
    have hc : ¬k = c.1 := fun e => hm c (by simp) e.symm
    by_cases hlt : k < c.1
    · simp [insert, get, hlt]
    · simpa [insert, get, hlt, hc] using ih (fun x hx => hm x (by simp [hx]))

theorem get_insert_other (d : α) (m : List (Nat × α)) {j k : Nat} (v : α) (h : j ≠ k) :
    get d (insert m k v) j = get d m j := by
  induction m with
  | nil => simp [insert, get, h]
  | cons c m ih =>
    by_cases hlt : k < c.1 <;> simp [insert, get, hlt, h, ih]

@[simp] theorem get_nil (d : α) (k : Nat) : get d [] k = d := rfl

/-- A read after a write to the same key gives the value written. -/
@[simp] theorem get_set_self [DecidableEq α] (d : α) (m : List (Nat × α)) (k : Nat) (v : α) : get d (set d m k v) k = v := by
  unfold set
  split
  · next h => rw [get_erase_self, h]
  · exact get_insert_self d _ k v (erase_no_key m k)

/-- A write leaves every other key alone. -/
theorem get_set_other [DecidableEq α] (d : α) (m : List (Nat × α)) {j k : Nat} (v : α) (h : j ≠ k) : get d (set d m k v) j = get d m j := by
  unfold set
  split
  · exact get_erase_other d m h
  · rw [get_insert_other d _ v h, get_erase_other d m h]

/-! ## The canonical form -/

theorem keysAbove_cons (k : Nat) (c : Nat × α) (m : List (Nat × α)) :
    keysAbove k (c :: m) = true ↔ k < c.1 ∧ keysAbove k m = true := by
  simp [keysAbove]

theorem keysAbove_mono {i j : Nat} (hij : i ≤ j) {m : List (Nat × α)} (h : keysAbove j m = true) : keysAbove i m = true := by
  simp only [keysAbove, List.all_eq_true, decide_eq_true_eq] at *
  exact fun c hc => lt_of_le_of_lt hij (h c hc)

theorem wf_cons [DecidableEq α] (d : α) (c : Nat × α) (m : List (Nat × α)) :
    wf d (c :: m) = true ↔ c.2 ≠ d ∧ keysAbove c.1 m = true ∧ wf d m = true := by
  simp [wf, and_assoc]

theorem keysAbove_erase {i : Nat} {m : List (Nat × α)} (k : Nat) (h : keysAbove i m = true) : keysAbove i (erase m k) = true := by
  induction m with
  | nil => rfl
  | cons c m ih =>
    rw [keysAbove_cons] at h
    by_cases hk : k = c.1
    · simpa only [erase, if_pos hk] using ih h.2
    · simp only [erase, if_neg hk, keysAbove_cons]
      exact ⟨h.1, ih h.2⟩

theorem keysAbove_insert {i k : Nat} {m : List (Nat × α)} (v : α) (hk : i < k) (h : keysAbove i m = true) :
    keysAbove i (insert m k v) = true := by
  induction m with
  | nil => simp [insert, keysAbove, hk]
  | cons c m ih =>
    by_cases hlt : k < c.1
    · simp only [insert, if_pos hlt, keysAbove_cons] at *
      exact ⟨hk, h⟩
    · simp only [insert, if_neg hlt, keysAbove_cons] at *
      exact ⟨h.1, ih h.2⟩

theorem wf_erase [DecidableEq α] {d : α} {m : List (Nat × α)} (k : Nat) (h : wf d m = true) : wf d (erase m k) = true := by
  induction m with
  | nil => rfl
  | cons c m ih =>
    rw [wf_cons] at h
    by_cases hk : k = c.1
    · simpa only [erase, if_pos hk] using ih h.2.2
    · simp only [erase, if_neg hk, wf_cons]
      exact ⟨h.1, keysAbove_erase k h.2.1, ih h.2.2⟩

theorem wf_insert [DecidableEq α] {d : α} {m : List (Nat × α)} {k : Nat} {v : α} (hv : v ≠ d) (hm : ∀ c ∈ m, c.1 ≠ k) (h : wf d m = true) :
    wf d (insert m k v) = true := by
  induction m with
  | nil => simp [insert, wf, keysAbove, hv]
  | cons c m ih =>
    have h' := (wf_cons d c m).1 h
    by_cases hlt : k < c.1
    · simp only [insert, if_pos hlt]
      exact (wf_cons d (k, v) (c :: m)).2 ⟨hv, (keysAbove_cons k c m).2 ⟨hlt, keysAbove_mono (le_of_lt hlt) h'.2.1⟩, h⟩
    · have hne : c.1 ≠ k := hm c (by simp)
      simp only [insert, if_neg hlt, wf_cons]
      exact ⟨h'.1, keysAbove_insert v (by omega) h'.2.1, ih (fun x hx => hm x (by simp [hx])) h'.2.2⟩

/-- A write keeps the canonical form. -/
theorem wf_set [DecidableEq α] {d : α} {m : List (Nat × α)} (k : Nat) (v : α) (h : wf d m = true) : wf d (set d m k v) = true := by
  unfold set
  split
  · exact wf_erase k h
  · next hv => exact wf_insert hv (erase_no_key m k) (wf_erase k h)

theorem keysBelow_erase {n : Nat} {m : List (Nat × α)} (k : Nat) (h : keysBelow n m = true) : keysBelow n (erase m k) = true := by
  induction m with
  | nil => rfl
  | cons c m ih =>
    simp only [keysBelow, List.all_cons, Bool.and_eq_true] at h
    by_cases hk : k = c.1
    · simpa only [erase, if_pos hk] using ih h.2
    · simp only [erase, if_neg hk, keysBelow, List.all_cons, Bool.and_eq_true]
      exact ⟨h.1, ih h.2⟩

theorem keysBelow_insert {n k : Nat} {m : List (Nat × α)} (v : α) (hk : k < n) (h : keysBelow n m = true) :
    keysBelow n (insert m k v) = true := by
  induction m with
  | nil => simp [insert, keysBelow, hk]
  | cons c m ih =>
    have h' := h
    simp only [keysBelow, List.all_cons, Bool.and_eq_true] at h'
    by_cases hlt : k < c.1
    · simp only [insert, if_pos hlt, keysBelow, List.all_cons, Bool.and_eq_true, decide_eq_true_eq] at *
      exact ⟨hk, h⟩
    · simp only [insert, if_neg hlt, keysBelow, List.all_cons, Bool.and_eq_true]
      exact ⟨h'.1, ih h'.2⟩

/-- A write below the bound keeps the bound. -/
theorem keysBelow_set [DecidableEq α] {n k : Nat} {d : α} {m : List (Nat × α)} (v : α) (hk : k < n) (h : keysBelow n m = true) :
    keysBelow n (set d m k v) = true := by
  unfold set
  split
  · exact keysBelow_erase k h
  · exact keysBelow_insert v hk (keysBelow_erase k h)

theorem keysAbove_ofFn [DecidableEq α] (d : α) (f : Nat → α) (n base i : Nat) (h : i < base) : keysAbove i (ofFn d f n base) = true := by
  induction n generalizing base with
  | zero => rfl
  | succ n ih =>
    unfold ofFn
    split
    · exact ih (base + 1) (by omega)
    · exact (keysAbove_cons i _ _).2 ⟨h, ih (base + 1) (by omega)⟩

theorem wf_ofFn [DecidableEq α] (d : α) (f : Nat → α) (n base : Nat) : wf d (ofFn d f n base) = true := by
  induction n generalizing base with
  | zero => rfl
  | succ n ih =>
    unfold ofFn
    split
    · exact ih (base + 1)
    · next h => exact (wf_cons d _ _).2 ⟨h, keysAbove_ofFn d f n (base + 1) base (by omega), ih (base + 1)⟩

theorem keysBelow_ofFn [DecidableEq α] (d : α) (f : Nat → α) (n base : Nat) : keysBelow (base + n) (ofFn d f n base) = true := by
  induction n generalizing base with
  | zero => rfl
  | succ n ih =>
    have e : base + (n + 1) = base + 1 + n := by omega
    unfold ofFn
    split
    · rw [e]; exact ih (base + 1)
    · rw [e]
      simp only [keysBelow, List.all_cons, Bool.and_eq_true, decide_eq_true_eq]
      exact ⟨by omega, ih (base + 1)⟩

theorem get_ofFn_above [DecidableEq α] (d : α) (f : Nat → α) (n base k : Nat) (h : k < base) : get d (ofFn d f n base) k = d := by
  induction n generalizing base with
  | zero => rfl
  | succ n ih =>
    unfold ofFn
    split
    · exact ih (base + 1) (by omega)
    · have hk : k ≠ base := by omega
      simpa only [get, if_neg hk] using ih (base + 1) (by omega)

/-- Reading the map of a function gives the function. -/
theorem get_ofFn [DecidableEq α] (d : α) (f : Nat → α) (n base k : Nat) (h1 : base ≤ k) (h2 : k < base + n) : get d (ofFn d f n base) k = f k := by
  induction n generalizing base with
  | zero => omega
  | succ n ih =>
    unfold ofFn
    by_cases hk : k = base
    · subst hk
      split
      · next h => rw [get_ofFn_above d f n (k + 1) k (by omega), h]
      · simp [get]
    · split
      · exact ih (base + 1) (by omega) (by omega)
      · simpa only [get, if_neg hk] using ih (base + 1) (by omega) (by omega)

end Sparse

namespace Memory

@[simp] theorem get_set_self (m : Memory) (i : Nat) (v : Byte) : get (set m i v) i = v := Sparse.get_set_self fill m i v

theorem get_set_other (m : Memory) {i j : Nat} (v : Byte) (h : j ≠ i) : get (set m i v) j = get m j :=
  Sparse.get_set_other fill m v h

/-- One read of a write: the new value at its index, the old one elsewhere. -/
theorem get_set (m : Memory) (i j : Nat) (v : Byte) : get (set m i v) j = if j = i then v else get m j := by
  by_cases h : j = i
  · subst h; simp
  · rw [get_set_other m v h, if_neg h]

/-- A store inside a memory keeps its canonical form and its size. -/
theorem ok_set {n i : Nat} {m : Memory} (v : Byte) (hi : i < n) (h : ok n m = true) : ok n (set m i v) = true := by
  simp only [ok, wf, set, Bool.and_eq_true] at *
  exact ⟨Sparse.wf_set i v h.1, Sparse.keysBelow_set v hi h.2⟩

theorem ok_ofFn (n : Nat) (f : Nat → Byte) : ok n (ofFn n f) = true := by
  have h := Sparse.keysBelow_ofFn fill f n 0
  simp only [Nat.zero_add] at h
  simp only [ok, wf, ofFn, Bool.and_eq_true]
  exact ⟨Sparse.wf_ofFn fill f n 0, h⟩

theorem get_ofFn (n : Nat) (f : Nat → Byte) {k : Nat} (h : k < n) : get (ofFn n f) k = f k :=
  Sparse.get_ofFn fill f n 0 k (by omega) (by omega)

theorem ok_nil (n : Nat) : ok n [] = true := rfl

end Memory

end Sys2Proof.Machine
end

