-- ==== Sys2Proof/Laws/State.lean ====
section
/-! SUPPORT. One lemma per part of the state for every named update, each true by rfl, and the register file's own laws: no later
proof unfolds a record update. -/

namespace Sys2Proof.Machine

/-! ### `withCpu` -/

@[simp] theorem withCpu_cpu (s : State) (c : Cpu) : (State.withCpu s c).cpu = c := rfl
@[simp] theorem withCpu_irq (s : State) (c : Cpu) : (State.withCpu s c).irq = s.irq := rfl
@[simp] theorem withCpu_timer (s : State) (c : Cpu) : (State.withCpu s c).timer = s.timer := rfl
@[simp] theorem withCpu_video (s : State) (c : Cpu) : (State.withCpu s c).video = s.video := rfl
@[simp] theorem withCpu_bus (s : State) (c : Cpu) : (State.withCpu s c).bus = s.bus := rfl
@[simp] theorem withCpu_cart (s : State) (c : Cpu) : (State.withCpu s c).cart = s.cart := rfl
@[simp] theorem withCpu_joypad (s : State) (c : Cpu) : (State.withCpu s c).joypad = s.joypad := rfl
@[simp] theorem withCpu_serial (s : State) (c : Cpu) : (State.withCpu s c).serial = s.serial := rfl
@[simp] theorem withCpu_sys (s : State) (c : Cpu) : (State.withCpu s c).sys = s.sys := rfl
@[simp] theorem withCpu_params (s : State) (c : Cpu) : (State.withCpu s c).params = s.params := rfl

/-! ### `withVideo` -/

@[simp] theorem withVideo_cpu (s : State) (u : Video) : (State.withVideo s u).cpu = s.cpu := rfl
@[simp] theorem withVideo_irq (s : State) (u : Video) : (State.withVideo s u).irq = s.irq := rfl
@[simp] theorem withVideo_timer (s : State) (u : Video) : (State.withVideo s u).timer = s.timer := rfl
@[simp] theorem withVideo_video (s : State) (u : Video) : (State.withVideo s u).video = u := rfl
@[simp] theorem withVideo_bus (s : State) (u : Video) : (State.withVideo s u).bus = s.bus := rfl
@[simp] theorem withVideo_cart (s : State) (u : Video) : (State.withVideo s u).cart = s.cart := rfl
@[simp] theorem withVideo_joypad (s : State) (u : Video) : (State.withVideo s u).joypad = s.joypad := rfl
@[simp] theorem withVideo_serial (s : State) (u : Video) : (State.withVideo s u).serial = s.serial := rfl
@[simp] theorem withVideo_sys (s : State) (u : Video) : (State.withVideo s u).sys = s.sys := rfl
@[simp] theorem withVideo_params (s : State) (u : Video) : (State.withVideo s u).params = s.params := rfl

/-! ### `setReg` -/

@[simp] theorem setReg_cpu (s : State) (r : Reg8) (v : Byte) : (State.setReg s r v).cpu = s.cpu.setReg r v := rfl
@[simp] theorem setReg_irq (s : State) (r : Reg8) (v : Byte) : (State.setReg s r v).irq = s.irq := rfl
@[simp] theorem setReg_timer (s : State) (r : Reg8) (v : Byte) : (State.setReg s r v).timer = s.timer := rfl
@[simp] theorem setReg_video (s : State) (r : Reg8) (v : Byte) : (State.setReg s r v).video = s.video := rfl
@[simp] theorem setReg_bus (s : State) (r : Reg8) (v : Byte) : (State.setReg s r v).bus = s.bus := rfl
@[simp] theorem setReg_cart (s : State) (r : Reg8) (v : Byte) : (State.setReg s r v).cart = s.cart := rfl
@[simp] theorem setReg_joypad (s : State) (r : Reg8) (v : Byte) : (State.setReg s r v).joypad = s.joypad := rfl
@[simp] theorem setReg_serial (s : State) (r : Reg8) (v : Byte) : (State.setReg s r v).serial = s.serial := rfl
@[simp] theorem setReg_sys (s : State) (r : Reg8) (v : Byte) : (State.setReg s r v).sys = s.sys := rfl
@[simp] theorem setReg_params (s : State) (r : Reg8) (v : Byte) : (State.setReg s r v).params = s.params := rfl

/-! ### `setPair` -/

@[simp] theorem setPair_cpu (s : State) (p : Reg16) (v : Word) : (State.setPair s p v).cpu = s.cpu.setPair p v := rfl
@[simp] theorem setPair_irq (s : State) (p : Reg16) (v : Word) : (State.setPair s p v).irq = s.irq := rfl
@[simp] theorem setPair_timer (s : State) (p : Reg16) (v : Word) : (State.setPair s p v).timer = s.timer := rfl
@[simp] theorem setPair_video (s : State) (p : Reg16) (v : Word) : (State.setPair s p v).video = s.video := rfl
@[simp] theorem setPair_bus (s : State) (p : Reg16) (v : Word) : (State.setPair s p v).bus = s.bus := rfl
@[simp] theorem setPair_cart (s : State) (p : Reg16) (v : Word) : (State.setPair s p v).cart = s.cart := rfl
@[simp] theorem setPair_joypad (s : State) (p : Reg16) (v : Word) : (State.setPair s p v).joypad = s.joypad := rfl
@[simp] theorem setPair_serial (s : State) (p : Reg16) (v : Word) : (State.setPair s p v).serial = s.serial := rfl
@[simp] theorem setPair_sys (s : State) (p : Reg16) (v : Word) : (State.setPair s p v).sys = s.sys := rfl
@[simp] theorem setPair_params (s : State) (p : Reg16) (v : Word) : (State.setPair s p v).params = s.params := rfl

/-! ### `setHL` -/

@[simp] theorem setHL_cpu (s : State) (v : Word) : (State.setHL s v).cpu = s.cpu.setHL v := rfl
@[simp] theorem setHL_irq (s : State) (v : Word) : (State.setHL s v).irq = s.irq := rfl
@[simp] theorem setHL_timer (s : State) (v : Word) : (State.setHL s v).timer = s.timer := rfl
@[simp] theorem setHL_video (s : State) (v : Word) : (State.setHL s v).video = s.video := rfl
@[simp] theorem setHL_bus (s : State) (v : Word) : (State.setHL s v).bus = s.bus := rfl
@[simp] theorem setHL_cart (s : State) (v : Word) : (State.setHL s v).cart = s.cart := rfl
@[simp] theorem setHL_joypad (s : State) (v : Word) : (State.setHL s v).joypad = s.joypad := rfl
@[simp] theorem setHL_serial (s : State) (v : Word) : (State.setHL s v).serial = s.serial := rfl
@[simp] theorem setHL_sys (s : State) (v : Word) : (State.setHL s v).sys = s.sys := rfl
@[simp] theorem setHL_params (s : State) (v : Word) : (State.setHL s v).params = s.params := rfl

/-! ### `setSp` -/

@[simp] theorem setSp_cpu (s : State) (v : Word) : (State.setSp s v).cpu = { s.cpu with sp := v } := rfl
@[simp] theorem setSp_irq (s : State) (v : Word) : (State.setSp s v).irq = s.irq := rfl
@[simp] theorem setSp_timer (s : State) (v : Word) : (State.setSp s v).timer = s.timer := rfl
@[simp] theorem setSp_video (s : State) (v : Word) : (State.setSp s v).video = s.video := rfl
@[simp] theorem setSp_bus (s : State) (v : Word) : (State.setSp s v).bus = s.bus := rfl
@[simp] theorem setSp_cart (s : State) (v : Word) : (State.setSp s v).cart = s.cart := rfl
@[simp] theorem setSp_joypad (s : State) (v : Word) : (State.setSp s v).joypad = s.joypad := rfl
@[simp] theorem setSp_serial (s : State) (v : Word) : (State.setSp s v).serial = s.serial := rfl
@[simp] theorem setSp_sys (s : State) (v : Word) : (State.setSp s v).sys = s.sys := rfl
@[simp] theorem setSp_params (s : State) (v : Word) : (State.setSp s v).params = s.params := rfl

/-! ### `setPc` -/

@[simp] theorem setPc_cpu (s : State) (v : Word) : (State.setPc s v).cpu = { s.cpu with pc := v } := rfl
@[simp] theorem setPc_irq (s : State) (v : Word) : (State.setPc s v).irq = s.irq := rfl
@[simp] theorem setPc_timer (s : State) (v : Word) : (State.setPc s v).timer = s.timer := rfl
@[simp] theorem setPc_video (s : State) (v : Word) : (State.setPc s v).video = s.video := rfl
@[simp] theorem setPc_bus (s : State) (v : Word) : (State.setPc s v).bus = s.bus := rfl
@[simp] theorem setPc_cart (s : State) (v : Word) : (State.setPc s v).cart = s.cart := rfl
@[simp] theorem setPc_joypad (s : State) (v : Word) : (State.setPc s v).joypad = s.joypad := rfl
@[simp] theorem setPc_serial (s : State) (v : Word) : (State.setPc s v).serial = s.serial := rfl
@[simp] theorem setPc_sys (s : State) (v : Word) : (State.setPc s v).sys = s.sys := rfl
@[simp] theorem setPc_params (s : State) (v : Word) : (State.setPc s v).params = s.params := rfl

/-! ### `setIme` -/

@[simp] theorem setIme_cpu (s : State) (v : Bool) : (State.setIme s v).cpu = { s.cpu with ime := v } := rfl
@[simp] theorem setIme_irq (s : State) (v : Bool) : (State.setIme s v).irq = s.irq := rfl
@[simp] theorem setIme_timer (s : State) (v : Bool) : (State.setIme s v).timer = s.timer := rfl
@[simp] theorem setIme_video (s : State) (v : Bool) : (State.setIme s v).video = s.video := rfl
@[simp] theorem setIme_bus (s : State) (v : Bool) : (State.setIme s v).bus = s.bus := rfl
@[simp] theorem setIme_cart (s : State) (v : Bool) : (State.setIme s v).cart = s.cart := rfl
@[simp] theorem setIme_joypad (s : State) (v : Bool) : (State.setIme s v).joypad = s.joypad := rfl
@[simp] theorem setIme_serial (s : State) (v : Bool) : (State.setIme s v).serial = s.serial := rfl
@[simp] theorem setIme_sys (s : State) (v : Bool) : (State.setIme s v).sys = s.sys := rfl
@[simp] theorem setIme_params (s : State) (v : Bool) : (State.setIme s v).params = s.params := rfl

/-! ### `setFlags` -/

@[simp] theorem setFlags_cpu (s : State) (g : Flags) : (State.setFlags s g).cpu = { s.cpu with f := g.toByte } := rfl
@[simp] theorem setFlags_irq (s : State) (g : Flags) : (State.setFlags s g).irq = s.irq := rfl
@[simp] theorem setFlags_timer (s : State) (g : Flags) : (State.setFlags s g).timer = s.timer := rfl
@[simp] theorem setFlags_video (s : State) (g : Flags) : (State.setFlags s g).video = s.video := rfl
@[simp] theorem setFlags_bus (s : State) (g : Flags) : (State.setFlags s g).bus = s.bus := rfl
@[simp] theorem setFlags_cart (s : State) (g : Flags) : (State.setFlags s g).cart = s.cart := rfl
@[simp] theorem setFlags_joypad (s : State) (g : Flags) : (State.setFlags s g).joypad = s.joypad := rfl
@[simp] theorem setFlags_serial (s : State) (g : Flags) : (State.setFlags s g).serial = s.serial := rfl
@[simp] theorem setFlags_sys (s : State) (g : Flags) : (State.setFlags s g).sys = s.sys := rfl
@[simp] theorem setFlags_params (s : State) (g : Flags) : (State.setFlags s g).params = s.params := rfl

/-! ### `setCycles` -/

@[simp] theorem setCycles_cpu (s : State) (t : Nat) : (State.setCycles s t).cpu = s.cpu := rfl
@[simp] theorem setCycles_irq (s : State) (t : Nat) : (State.setCycles s t).irq = s.irq := rfl
@[simp] theorem setCycles_timer (s : State) (t : Nat) : (State.setCycles s t).timer = s.timer := rfl
@[simp] theorem setCycles_video (s : State) (t : Nat) : (State.setCycles s t).video = s.video := rfl
@[simp] theorem setCycles_bus (s : State) (t : Nat) : (State.setCycles s t).bus = s.bus := rfl
@[simp] theorem setCycles_cart (s : State) (t : Nat) : (State.setCycles s t).cart = s.cart := rfl
@[simp] theorem setCycles_joypad (s : State) (t : Nat) : (State.setCycles s t).joypad = s.joypad := rfl
@[simp] theorem setCycles_serial (s : State) (t : Nat) : (State.setCycles s t).serial = s.serial := rfl
@[simp] theorem setCycles_sys (s : State) (t : Nat) : (State.setCycles s t).sys = { s.sys with cycles := t } := rfl
@[simp] theorem setCycles_params (s : State) (t : Nat) : (State.setCycles s t).params = s.params := rfl

/-! ### `requestIrq` -/

@[simp] theorem requestIrq_cpu (s : State) (i : IrqSource) : (requestIrq i s).cpu = s.cpu := rfl
@[simp] theorem requestIrq_irq (s : State) (i : IrqSource) : (requestIrq i s).irq = { s.irq with ifl := s.irq.ifl ||| i.mask } := rfl
@[simp] theorem requestIrq_timer (s : State) (i : IrqSource) : (requestIrq i s).timer = s.timer := rfl
@[simp] theorem requestIrq_video (s : State) (i : IrqSource) : (requestIrq i s).video = s.video := rfl
@[simp] theorem requestIrq_bus (s : State) (i : IrqSource) : (requestIrq i s).bus = s.bus := rfl
@[simp] theorem requestIrq_cart (s : State) (i : IrqSource) : (requestIrq i s).cart = s.cart := rfl
@[simp] theorem requestIrq_joypad (s : State) (i : IrqSource) : (requestIrq i s).joypad = s.joypad := rfl
@[simp] theorem requestIrq_serial (s : State) (i : IrqSource) : (requestIrq i s).serial = s.serial := rfl
@[simp] theorem requestIrq_sys (s : State) (i : IrqSource) : (requestIrq i s).sys = s.sys := rfl
@[simp] theorem requestIrq_params (s : State) (i : IrqSource) : (requestIrq i s).params = s.params := rfl

/-! ### The register file -/

/-- A register reads what was written to it, and the others as before (R22, R23). -/
theorem Cpu.getReg_setReg (c : Cpu) (r q : Reg8) (v : Byte) :
    (c.setReg r v).getReg q = if q = r then v else c.getReg q := by
  cases r <;> cases q <;> rfl

@[simp] theorem Cpu.setReg_f (c : Cpu) (r : Reg8) (v : Byte) : (c.setReg r v).f = c.f := by cases r <;> rfl
@[simp] theorem Cpu.setReg_sp (c : Cpu) (r : Reg8) (v : Byte) : (c.setReg r v).sp = c.sp := by cases r <;> rfl
@[simp] theorem Cpu.setReg_pc (c : Cpu) (r : Reg8) (v : Byte) : (c.setReg r v).pc = c.pc := by cases r <;> rfl
@[simp] theorem Cpu.setReg_ime (c : Cpu) (r : Reg8) (v : Byte) : (c.setReg r v).ime = c.ime := by cases r <;> rfl
@[simp] theorem Cpu.setReg_halted (c : Cpu) (r : Reg8) (v : Byte) : (c.setReg r v).halted = c.halted := by cases r <;> rfl
@[simp] theorem Cpu.setReg_stopped (c : Cpu) (r : Reg8) (v : Byte) : (c.setReg r v).stopped = c.stopped := by cases r <;> rfl
@[simp] theorem Cpu.setPair_a (c : Cpu) (p : Reg16) (v : Word) : (c.setPair p v).a = c.a := by cases p <;> rfl
@[simp] theorem Cpu.setPair_f (c : Cpu) (p : Reg16) (v : Word) : (c.setPair p v).f = c.f := by cases p <;> rfl
@[simp] theorem Cpu.setPair_pc (c : Cpu) (p : Reg16) (v : Word) : (c.setPair p v).pc = c.pc := by cases p <;> rfl
@[simp] theorem Cpu.setPair_ime (c : Cpu) (p : Reg16) (v : Word) : (c.setPair p v).ime = c.ime := by cases p <;> rfl
@[simp] theorem Cpu.setPair_halted (c : Cpu) (p : Reg16) (v : Word) : (c.setPair p v).halted = c.halted := by cases p <;> rfl
@[simp] theorem Cpu.setPair_stopped (c : Cpu) (p : Reg16) (v : Word) : (c.setPair p v).stopped = c.stopped := by cases p <;> rfl
@[simp] theorem Cpu.setStk_sp (c : Cpu) (q : Stk16) (v : Word) : (c.setStk q v).sp = c.sp := by cases q <;> rfl
@[simp] theorem Cpu.setStk_pc (c : Cpu) (q : Stk16) (v : Word) : (c.setStk q v).pc = c.pc := by cases q <;> rfl
@[simp] theorem Cpu.setStk_ime (c : Cpu) (q : Stk16) (v : Word) : (c.setStk q v).ime = c.ime := by cases q <;> rfl
@[simp] theorem Cpu.setStk_halted (c : Cpu) (q : Stk16) (v : Word) : (c.setStk q v).halted = c.halted := by cases q <;> rfl
@[simp] theorem Cpu.setStk_stopped (c : Cpu) (q : Stk16) (v : Word) : (c.setStk q v).stopped = c.stopped := by cases q <;> rfl
@[simp] theorem Cpu.setHL_a (c : Cpu) (v : Word) : (c.setHL v).a = c.a := rfl
@[simp] theorem Cpu.setHL_f (c : Cpu) (v : Word) : (c.setHL v).f = c.f := rfl
@[simp] theorem Cpu.setHL_b (c : Cpu) (v : Word) : (c.setHL v).b = c.b := rfl
@[simp] theorem Cpu.setHL_c (c : Cpu) (v : Word) : (c.setHL v).c = c.c := rfl
@[simp] theorem Cpu.setHL_d (c : Cpu) (v : Word) : (c.setHL v).d = c.d := rfl
@[simp] theorem Cpu.setHL_e (c : Cpu) (v : Word) : (c.setHL v).e = c.e := rfl
@[simp] theorem Cpu.setHL_sp (c : Cpu) (v : Word) : (c.setHL v).sp = c.sp := rfl
@[simp] theorem Cpu.setHL_pc (c : Cpu) (v : Word) : (c.setHL v).pc = c.pc := rfl
@[simp] theorem Cpu.setHL_ime (c : Cpu) (v : Word) : (c.setHL v).ime = c.ime := rfl
@[simp] theorem Cpu.setHL_halted (c : Cpu) (v : Word) : (c.setHL v).halted = c.halted := rfl
@[simp] theorem Cpu.setHL_stopped (c : Cpu) (v : Word) : (c.setHL v).stopped = c.stopped := rfl

/-- A word is its two bytes (R22). -/
theorem hiByte_append_loByte (v : Word) : hiByte v ++ loByte v = v := by
  ext i hi
  simp only [hiByte, loByte, BitVec.getElem_append, BitVec.getElem_extractLsb']
  split <;> simp_all [← BitVec.getLsbD_eq_getElem]

@[simp] theorem hiByte_append (a b : Byte) : hiByte (a ++ b) = a := by
  ext i hi
  simp only [hiByte, BitVec.getElem_extractLsb', BitVec.getLsbD_append]
  rw [if_neg (by omega), Nat.add_sub_cancel_left, BitVec.getLsbD_eq_getElem hi]

@[simp] theorem loByte_append (a b : Byte) : loByte (a ++ b) = b := by
  ext i hi
  simp only [loByte, BitVec.getElem_extractLsb', BitVec.getLsbD_append]
  rw [if_pos (by omega), Nat.zero_add, BitVec.getLsbD_eq_getElem hi]

/-- A pair reads what was written to it (R22). -/
@[simp] theorem Cpu.getPair_setPair (c : Cpu) (p : Reg16) (v : Word) : (c.setPair p v).getPair p = v := by
  cases p
  · exact hiByte_append_loByte v
  · exact hiByte_append_loByte v
  · exact hiByte_append_loByte v
  · rfl

/-- Every flag byte has a zero low nibble (R24). -/
theorem Flags.toByte_low (g : Flags) : g.toByte &&& 0x0F = 0 := by
  rcases g with ⟨z, n, h, c⟩
  cases z <;> cases n <;> cases h <;> cases c <;> rfl

/-- A write to F stores a zero low nibble (R24). -/
theorem maskF_low (v : Byte) : maskF v &&& 0x0F = 0 := by
  rw [maskF, BitVec.and_assoc]
  exact BitVec.and_zero

theorem Flags.toByte_bit7 (g : Flags) : g.toByte.getLsbD 7 = g.z := by
  rcases g with ⟨z, n, h, c⟩
  cases z <;> cases n <;> cases h <;> cases c <;> decide

theorem Flags.toByte_bit6 (g : Flags) : g.toByte.getLsbD 6 = g.n := by
  rcases g with ⟨z, n, h, c⟩
  cases z <;> cases n <;> cases h <;> cases c <;> decide

theorem Flags.toByte_bit5 (g : Flags) : g.toByte.getLsbD 5 = g.h := by
  rcases g with ⟨z, n, h, c⟩
  cases z <;> cases n <;> cases h <;> cases c <;> decide

theorem Flags.toByte_bit4 (g : Flags) : g.toByte.getLsbD 4 = g.c := by
  rcases g with ⟨z, n, h, c⟩
  cases z <;> cases n <;> cases h <;> cases c <;> decide

@[simp] theorem Cpu.flagZ_toByte (c : Cpu) (g : Flags) : Cpu.flagZ { c with f := g.toByte } = g.z := g.toByte_bit7

@[simp] theorem Cpu.flagN_toByte (c : Cpu) (g : Flags) : Cpu.flagN { c with f := g.toByte } = g.n := g.toByte_bit6

@[simp] theorem Cpu.flagH_toByte (c : Cpu) (g : Flags) : Cpu.flagH { c with f := g.toByte } = g.h := g.toByte_bit5

@[simp] theorem Cpu.flagC_toByte (c : Cpu) (g : Flags) : Cpu.flagC { c with f := g.toByte } = g.c := g.toByte_bit4

/-! ### The parts a read depends on -/

@[simp] theorem memRead_withCpu (s : State) (c : Cpu) (a : Word) : memRead (s.withCpu c) a = memRead s a := rfl

@[simp] theorem memRead_setReg (s : State) (r : Reg8) (v : Byte) (a : Word) : memRead (s.setReg r v) a = memRead s a := rfl

@[simp] theorem memRead_setPair (s : State) (p : Reg16) (v a : Word) : memRead (s.setPair p v) a = memRead s a := rfl

@[simp] theorem memRead_setHL (s : State) (v a : Word) : memRead (s.setHL v) a = memRead s a := rfl

@[simp] theorem memRead_setSp (s : State) (v a : Word) : memRead (s.setSp v) a = memRead s a := rfl

@[simp] theorem memRead_setPc (s : State) (v a : Word) : memRead (s.setPc v) a = memRead s a := rfl

@[simp] theorem memRead_setIme (s : State) (v : Bool) (a : Word) : memRead (s.setIme v) a = memRead s a := rfl

@[simp] theorem memRead_setFlags (s : State) (g : Flags) (a : Word) : memRead (s.setFlags g) a = memRead s a := rfl

@[simp] theorem memRead_setCycles (s : State) (t : Nat) (a : Word) : memRead (s.setCycles t) a = memRead s a := rfl

/-- What a read depends on: two states that agree on the bus and on every register behind it read alike (R63, R77). -/
theorem memRead_congr {s t : State} (hb : t.bus = s.bus) (hc : t.cart = s.cart) (hi : t.irq = s.irq) (ht : t.timer = s.timer)
    (hv : t.video = s.video) (hj : t.joypad = s.joypad) (hs : t.serial = s.serial) (a : Word) : memRead t a = memRead s a := by
  simp only [memRead, extRead, ioRead, hb, hc, hi, ht, hv, hj, hs]

end Sys2Proof.Machine
end

