-- ==== Sys2Proof/Laws/Bus.lean ====
section
/-! SUPPORT. The laws of the bus: where the decoder sends an address, what a write leaves alone, what it keeps in form, and reading
back what was written. -/

namespace Sys2Proof.Machine

/-! ## The decoder -/

/-- The offsets a region can carry: inside the storage behind it. -/
def Region.inRange : Region → Prop
  | .boot o => o < 256
  | .cart o => o < 0x8000
  | .vram o => o < 8192
  | .ext o => o < 8192
  | .wram o => o < 8192
  | .oam o => o < 160
  | .unmapped => True
  | .io o => o < 128
  | .hram o => o < 127
  | .ie => True

/-- The decoder's offset lies inside the storage it names (R64). -/
theorem busDecode_inRange (ov : Bool) (a : Word) : (busDecode ov a).inRange := by
  unfold busDecode
  dsimp only
  split_ifs <;> simp only [Region.inRange] <;> omega

/-- The address ranges of R64's table, by region. -/
theorem busDecode_vram {ov : Bool} {a : Word} (h1 : 0x8000 ≤ a.toNat) (h2 : a.toNat < 0xA000) :
    busDecode ov a = .vram (a.toNat - 0x8000) := by
  unfold busDecode
  dsimp only
  split_ifs <;> first | omega | rfl

theorem busDecode_ext {ov : Bool} {a : Word} (h1 : 0xA000 ≤ a.toNat) (h2 : a.toNat < 0xC000) :
    busDecode ov a = .ext (a.toNat - 0xA000) := by
  unfold busDecode
  dsimp only
  split_ifs <;> first | omega | rfl

theorem busDecode_wram {ov : Bool} {a : Word} (h1 : 0xC000 ≤ a.toNat) (h2 : a.toNat < 0xE000) :
    busDecode ov a = .wram (a.toNat - 0xC000) := by
  unfold busDecode
  dsimp only
  split_ifs <;> first | omega | rfl

theorem busDecode_echo {ov : Bool} {a : Word} (h1 : 0xE000 ≤ a.toNat) (h2 : a.toNat < 0xFE00) :
    busDecode ov a = .wram (a.toNat - 0xE000) := by
  unfold busDecode
  dsimp only
  split_ifs <;> first | omega | rfl

theorem busDecode_oam {ov : Bool} {a : Word} (h1 : 0xFE00 ≤ a.toNat) (h2 : a.toNat < 0xFEA0) :
    busDecode ov a = .oam (a.toNat - 0xFE00) := by
  unfold busDecode
  dsimp only
  split_ifs <;> first | omega | rfl

theorem busDecode_io {ov : Bool} {a : Word} (h1 : 0xFF00 ≤ a.toNat) (h2 : a.toNat < 0xFF80) :
    busDecode ov a = .io (a.toNat - 0xFF00) := by
  unfold busDecode
  dsimp only
  split_ifs <;> first | omega | rfl

theorem busDecode_hram {ov : Bool} {a : Word} (h1 : 0xFF80 ≤ a.toNat) (h2 : a.toNat < 0xFFFF) :
    busDecode ov a = .hram (a.toNat - 0xFF80) := by
  unfold busDecode
  dsimp only
  split_ifs <;> first | omega | rfl

/-! ## What the DMA copy touches -/

/-- A DMA copy of any list of indices changes OAM alone. -/
theorem dmaFold_frame (v : Byte) (l : List Nat) (s : State) :
    l.foldl (dmaByte v) s = { s with bus := { s.bus with oam := (l.foldl (dmaByte v) s).bus.oam } } := by
  induction l generalizing s with
  | nil => rfl
  | cons i l ih => simp only [List.foldl_cons]; rw [ih]; rfl

/-- The write to 0xFF46 changes the DMA register and OAM alone (R95). -/
theorem dmaWrite_frame (s : State) (v : Byte) :
    dmaWrite s v = { s with bus := { s.bus with dma := v, oam := (dmaWrite s v).bus.oam } } :=
  dmaFold_frame v (List.range 160) { s with bus := { s.bus with dma := v } }

/-- A DMA copy of indices below 160 keeps OAM's form and size. -/
theorem dmaFold_oam_ok (v : Byte) (l : List Nat) (s : State) (hl : ∀ i ∈ l, i < 160) (h : Memory.ok 160 s.bus.oam = true) :
    Memory.ok 160 (l.foldl (dmaByte v) s).bus.oam = true := by
  induction l generalizing s with
  | nil => exact h
  | cons i l ih =>
    exact ih _ (fun j hj => hl j (by simp [hj])) (Memory.ok_set _ (hl i (by simp)) h)

theorem dmaWrite_oam_ok (s : State) (v : Byte) (h : Memory.ok 160 s.bus.oam = true) :
    Memory.ok 160 (dmaWrite s v).bus.oam = true :=
  dmaFold_oam_ok v _ _ (fun _ hi => List.mem_range.1 hi) h

/-! ## What every write leaves alone -/

/-- An I/O write touches no register of the processor, no bookkeeping, no parameter and no cartridge state, and of the bus only
OAM, the DMA register and the overlay flag. -/
theorem ioWrite_frame (s : State) (o : Nat) (v : Byte) :
    (ioWrite s o v).cpu = s.cpu ∧ (ioWrite s o v).sys = s.sys ∧ (ioWrite s o v).params = s.params ∧
      (ioWrite s o v).cart = s.cart ∧ (ioWrite s o v).irq.ie = s.irq.ie ∧
      ((ioWrite s o v).bus = s.bus ∨ (ioWrite s o v).bus = { s.bus with overlay := false } ∨
        ∃ m, (ioWrite s o v).bus = { s.bus with dma := v, oam := m } ∧ m = (dmaWrite s v).bus.oam) := by
  unfold ioWrite
  split
  case h_14 =>
    rw [dmaWrite_frame]
    exact ⟨rfl, rfl, rfl, rfl, rfl, .inr (.inr ⟨_, rfl, rfl⟩)⟩
  all_goals first
    | exact ⟨rfl, rfl, rfl, rfl, rfl, .inl rfl⟩
    | exact ⟨rfl, rfl, rfl, rfl, rfl, .inr (.inl rfl)⟩

@[simp] theorem ioWrite_cpu (s : State) (o : Nat) (v : Byte) : (ioWrite s o v).cpu = s.cpu := (ioWrite_frame s o v).1

@[simp] theorem ioWrite_sys (s : State) (o : Nat) (v : Byte) : (ioWrite s o v).sys = s.sys := (ioWrite_frame s o v).2.1

@[simp] theorem ioWrite_params (s : State) (o : Nat) (v : Byte) : (ioWrite s o v).params = s.params := (ioWrite_frame s o v).2.2.1

/-- A write touches no register of the processor. -/
@[simp] theorem memWrite_cpu (s : State) (a : Word) (v : Byte) : (memWrite s a v).cpu = s.cpu := by
  unfold memWrite; split <;> simp

@[simp] theorem memWrite_sys (s : State) (a : Word) (v : Byte) : (memWrite s a v).sys = s.sys := by
  unfold memWrite; split <;> simp

@[simp] theorem memWrite_params (s : State) (a : Word) (v : Byte) : (memWrite s a v).params = s.params := by
  unfold memWrite; split <;> simp

/-- The controller never changes the image (R103). -/
@[simp] theorem cartWrite_image (m : Config.Mbc1ModeWrite) (c : Cart) (o : Nat) (v : Byte) : (cartWrite m c o v).image = c.image := by
  unfold cartWrite; split_ifs <;> try rfl
  cases m <;> rfl

/-- No write changes a ROM byte or the boot buffer (R65, R103). -/
@[simp] theorem memWrite_image (s : State) (a : Word) (v : Byte) : (memWrite s a v).cart.image = s.cart.image := by
  unfold memWrite
  split <;> simp [(ioWrite_frame s _ v).2.2.2.1]

@[simp] theorem memWrite_boot (s : State) (a : Word) (v : Byte) : (memWrite s a v).bus.boot = s.bus.boot := by
  unfold memWrite
  split <;> try rfl
  next o _ =>
    rcases (ioWrite_frame s o v).2.2.2.2.2 with h | h | ⟨m, h, -⟩ <;> rw [h]

/-- No write turns the overlay on (R42, R96). -/
theorem memWrite_overlay (s : State) (a : Word) (v : Byte) (h : (memWrite s a v).bus.overlay = true) : s.bus.overlay = true := by
  unfold memWrite at h
  split at h <;> try exact h
  next o _ =>
    rcases (ioWrite_frame s o v).2.2.2.2.2 with h' | h' | ⟨m, h', -⟩ <;> rw [h'] at h
    · exact h
    · cases h
    · exact h

/-- No write presses or releases a button (R46). -/
@[simp] theorem memWrite_buttons (s : State) (a : Word) (v : Byte) : (memWrite s a v).joypad.buttons = s.joypad.buttons := by
  unfold memWrite
  split <;> try rfl
  unfold ioWrite
  split
  case h_14 => rw [dmaWrite_frame]
  all_goals rfl

/-! ## What every write keeps in form -/

theorem skipBank_ok (b : BitVec 7) : (skipBank b).toNat % 0x20 ≠ 0 := by
  revert b
  decide

/-- The controller keeps a legal bank number (R91, R92). -/
theorem cartWrite_ok (m : Config.Mbc1ModeWrite) (c : Cart) (o : Nat) (v : Byte) (h : c.ok = true) : (cartWrite m c o v).ok = true := by
  have hi := cartWrite_image m c o v
  simp only [Cart.ok, Bool.and_eq_true, decide_eq_true_eq, hi] at *
  refine ⟨?_, h.2⟩
  unfold cartWrite
  split_ifs
  · exact h.1
  · exact h.1
  · exact skipBank_ok _
  · exact h.1
  · exact skipBank_ok _
  · cases m <;> exact h.1

theorem Frame.ok_nil (sh : Config.Shades) : Frame.ok sh [] = true := rfl

/-- The LCDC write keeps the video unit's bounds (R358). -/
theorem lcdcWrite_ok (sh : Config.Shades) (u : Video) (v : Byte) (h : u.ok sh = true) : (lcdcWrite u v).ok sh = true := by
  simp only [Video.ok, Bool.and_eq_true, decide_eq_true_eq] at h
  unfold lcdcWrite
  dsimp only
  split_ifs
  · simp only [Video.ok, Bool.and_eq_true, decide_eq_true_eq]
    exact ⟨⟨⟨⟨rfl, by decide⟩, Frame.ok_nil sh⟩, Frame.ok_nil sh⟩, h.2⟩
  · simp only [Video.ok, Bool.and_eq_true, decide_eq_true_eq]
    exact ⟨⟨⟨⟨rfl, by decide⟩, h.1.1.2⟩, h.1.2⟩, h.2⟩
  · simp only [Video.ok, Bool.and_eq_true, decide_eq_true_eq]
    exact h

theorem Bus.ok_iff (b : Bus) : b.ok = true ↔ Memory.ok 8192 b.vram = true ∧ Memory.ok 8192 b.wram = true ∧ Memory.ok 160 b.oam = true ∧
    Memory.ok 128 b.hram = true ∧ Memory.ok 8192 b.extram = true ∧ Memory.ok 256 b.boot = true := by
  simp [Bus.ok, and_assoc]

/-- An I/O write keeps the invariant. -/
theorem ioWrite_inv (s : State) (o : Nat) (v : Byte) (h : MachineInv s) : MachineInv (ioWrite s o v) := by
  have hv := h.video
  have ht := h.timer
  unfold ioWrite
  split
  case h_14 =>
    have hb := (Bus.ok_iff _).1 h.bus
    rw [dmaWrite_frame]
    exact ⟨h.fLowZero, (Bus.ok_iff _).2 ⟨hb.1, hb.2.1, dmaWrite_oam_ok s v hb.2.2.1, hb.2.2.2⟩, hv, ht, h.cart, h.params⟩
  case h_9 => exact ⟨h.fLowZero, h.bus, lcdcWrite_ok _ _ v hv, ht, h.cart, h.params⟩
  case h_4 =>
    simp only [Timer.ok, Bool.and_eq_true, decide_eq_true_eq] at ht
    refine ⟨h.fLowZero, h.bus, hv, ?_, h.cart, h.params⟩
    simp only [Timer.ok, Bool.and_eq_true, decide_eq_true_eq]
    exact ⟨⟨ht.1.1, by decide⟩, ht.2⟩
  all_goals exact ⟨h.fLowZero, h.bus, hv, ht, h.cart, h.params⟩

/-- Every write keeps the invariant: in particular every memory keeps its canonical form and its size. -/
theorem memWrite_inv (s : State) (a : Word) (v : Byte) (h : MachineInv s) : MachineInv (memWrite s a v) := by
  have hr := busDecode_inRange s.bus.overlay a
  have hb := (Bus.ok_iff _).1 h.bus
  unfold memWrite
  split <;> rename_i he <;> rw [he] at hr <;> simp only [Region.inRange] at hr
  · exact ⟨h.fLowZero, h.bus, h.video, h.timer, cartWrite_ok _ _ _ v h.cart, h.params⟩
  · exact ⟨h.fLowZero, h.bus, h.video, h.timer, cartWrite_ok _ _ _ v h.cart, h.params⟩
  · exact ⟨h.fLowZero, (Bus.ok_iff _).2 ⟨Memory.ok_set v hr hb.1, hb.2⟩, h.video, h.timer, h.cart, h.params⟩
  · refine ⟨h.fLowZero, (Bus.ok_iff _).2 ⟨hb.1, hb.2.1, hb.2.2.1, hb.2.2.2.1, ?_, hb.2.2.2.2.2⟩, h.video, h.timer, h.cart, h.params⟩
    simp only [extWrite]
    split
    · exact Memory.ok_ofFn 8192 _
    · exact Memory.ok_set v hr hb.2.2.2.2.1
  · exact ⟨h.fLowZero, (Bus.ok_iff _).2 ⟨hb.1, Memory.ok_set v hr hb.2.1, hb.2.2⟩, h.video, h.timer, h.cart, h.params⟩
  · exact ⟨h.fLowZero, (Bus.ok_iff _).2 ⟨hb.1, hb.2.1, Memory.ok_set v hr hb.2.2.1, hb.2.2.2⟩, h.video, h.timer, h.cart, h.params⟩
  · exact h
  · exact ioWrite_inv s _ v h
  · exact ⟨h.fLowZero, (Bus.ok_iff _).2 ⟨hb.1, hb.2.1, hb.2.2.1, Memory.ok_set v (by omega) hb.2.2.2.1, hb.2.2.2.2⟩, h.video, h.timer,
      h.cart, h.params⟩
  · exact ⟨h.fLowZero, h.bus, h.video, h.timer, h.cart, h.params⟩

end Sys2Proof.Machine
end

