-- ==== Sys2Proof/Laws/Ops.lean ====
section
/-! SUPPORT. The laws of the shared operations: a bus access does not see the processor, what a push and a dispatch do, what an
interrupt pass can do, and what they keep. -/

namespace Sys2Proof.Machine

/-! ## The bus does not see the processor or the bookkeeping -/

theorem dmaFold_withCpu (v : Byte) (c : Cpu) (l : List Nat) (s : State) :
    l.foldl (dmaByte v) (s.withCpu c) = (l.foldl (dmaByte v) s).withCpu c := by
  induction l generalizing s with
  | nil => rfl
  | cons i l ih =>
    simp only [List.foldl_cons]
    exact ih (dmaByte v s i)

theorem ioWrite_withCpu (s : State) (c : Cpu) (o : Nat) (v : Byte) : ioWrite (s.withCpu c) o v = (ioWrite s o v).withCpu c := by
  unfold ioWrite
  split
  case h_14 => exact dmaFold_withCpu v c (List.range 160) { s with bus := { s.bus with dma := v } }
  all_goals rfl

/-- A write and a change of the processor's registers commute. -/
theorem memWrite_withCpu (s : State) (c : Cpu) (a : Word) (v : Byte) : memWrite (s.withCpu c) a v = (memWrite s a v).withCpu c := by
  unfold memWrite
  rw [show (s.withCpu c).bus.overlay = s.bus.overlay from rfl]
  split <;> try rfl
  exact ioWrite_withCpu _ _ _ _

/-! ## The stack -/

/-- What Push16 does, in one line (R12). -/
theorem push16_eq (s : State) (v : Word) : push16 s v = pushed s v := by
  have e : s.cpu.sp - 1 - 1 = s.cpu.sp - 2 := by bv_omega
  simp only [push16, pushed, State.setSp, memWrite_withCpu, withCpu_cpu, loByte, hiByte, e]
  rfl

theorem stackWord_eq (s : State) : stackWord s = popped s := rfl

@[simp] theorem pushed_cpu (s : State) (v : Word) : (pushed s v).cpu = { s.cpu with sp := s.cpu.sp - 2 } := rfl

@[simp] theorem pushed_sys (s : State) (v : Word) : (pushed s v).sys = s.sys := by simp [pushed]

@[simp] theorem pushed_params (s : State) (v : Word) : (pushed s v).params = s.params := by simp [pushed]

@[simp] theorem pushed_image (s : State) (v : Word) : (pushed s v).cart.image = s.cart.image := by simp [pushed]

@[simp] theorem pushed_boot (s : State) (v : Word) : (pushed s v).bus.boot = s.bus.boot := by simp [pushed]

/-! ## The flags -/

/-- The flags record and the flag byte agree (R24, R25). -/
theorem toByte_eq (g : Flags) : g.toByte = flagByte g.z g.n g.h g.c := by
  obtain ⟨z, n, h, c⟩ := g
  cases z <;> cases n <;> cases h <;> cases c <;> rfl

theorem flagByte_low (z n h c : Bool) : flagByte z n h c &&& 0x0F = 0 := by
  cases z <;> cases n <;> cases h <;> cases c <;> rfl

/-! ## Interrupts -/

/-- Taking an interrupt, in one line (R323). -/
theorem takeInterrupt_eq (i : IrqSource) (s : State) : takeInterrupt i s = dispatched s i.bit i.vector := by
  simp only [takeInterrupt, dispatched, State.setIme, push16_eq, IrqSource.mask, pushed, memWrite_withCpu]
  rfl

/-- Everything an interrupt pass can do (R322-R324): dispatch the first eligible source, wake a halted processor, or nothing. -/
theorem evaluate_cases (s : State) :
    (s.cpu.ime = true ∧ ∃ i, firstEligible (pendingEnabled s) = some i ∧ evaluate s = dispatched s i.bit i.vector) ∨
    (s.cpu.ime = true ∧ firstEligible (pendingEnabled s) = none ∧ evaluate s = s) ∨
    (s.cpu.ime = false ∧ pendingEnabled s ≠ 0 ∧ s.cpu.halted = true ∧ evaluate s = s.withCpu { s.cpu with halted := false }) ∨
    (s.cpu.ime = false ∧ (pendingEnabled s = 0 ∨ s.cpu.halted = false) ∧ evaluate s = s) := by
  unfold evaluate
  cases hi : s.cpu.ime with
  | true =>
    cases hf : firstEligible (pendingEnabled s) with
    | some i => exact .inl ⟨rfl, i, rfl, by simp [hf, takeInterrupt_eq]⟩
    | none => exact .inr (.inl ⟨rfl, rfl, by simp [hf]⟩)
  | false =>
    by_cases hp : pendingEnabled s ≠ 0 ∧ s.cpu.halted = true
    · exact .inr (.inr (.inl ⟨rfl, hp.1, hp.2, by rw [if_neg (by simp), if_pos hp]⟩))
    · refine .inr (.inr (.inr ⟨rfl, ?_, by rw [if_neg (by simp), if_neg hp]⟩))
      by_cases h0 : pendingEnabled s = 0
      · exact .inl h0
      · refine .inr ?_
        cases hh : s.cpu.halted
        · rfl
        · exact absurd ⟨h0, hh⟩ hp

/-! ## What they keep -/

/-- The invariant reads F alone of the processor. -/
theorem MachineInv.withCpu {s : State} (h : MachineInv s) {c : Cpu} (hf : c.f &&& 0x0F = 0) : MachineInv (s.withCpu c) :=
  ⟨hf, h.bus, h.video, h.timer, h.cart, h.params⟩

theorem MachineInv.withSys {s : State} (h : MachineInv s) (y : Sys) : MachineInv { s with sys := y } :=
  ⟨h.fLowZero, h.bus, h.video, h.timer, h.cart, h.params⟩

theorem MachineInv.withIrq {s : State} (h : MachineInv s) (q : Irq) : MachineInv { s with irq := q } :=
  ⟨h.fLowZero, h.bus, h.video, h.timer, h.cart, h.params⟩

theorem pushed_inv (s : State) (v : Word) (h : MachineInv s) : MachineInv (pushed s v) :=
  MachineInv.withCpu (memWrite_inv _ _ _ (memWrite_inv _ _ _ h)) h.fLowZero

theorem dispatched_inv (s : State) (bit : Nat) (vec : Word) (h : MachineInv s) : MachineInv (dispatched s bit vec) :=
  MachineInv.withSys (MachineInv.withCpu (pushed_inv _ _ (h.withIrq _)) (by simpa using h.fLowZero)) _

theorem evaluate_inv (s : State) (h : MachineInv s) : MachineInv (evaluate s) := by
  rcases evaluate_cases s with ⟨-, i, -, e⟩ | ⟨-, -, e⟩ | ⟨-, -, -, e⟩ | ⟨-, -, e⟩ <;> rw [e]
  · exact dispatched_inv _ _ _ h
  · exact h
  · exact h.withCpu h.fLowZero
  · exact h

theorem requestIrq_inv (i : IrqSource) (s : State) (h : MachineInv s) : MachineInv (requestIrq i s) := h.withIrq _

end Sys2Proof.Machine
end

