-- ==== Sys2Proof/Laws/Devices.lean ====
section
/-! SUPPORT. The laws of the timer, the video unit and the rest of a step: what an advance can change, and that it keeps the
invariant. -/

namespace Sys2Proof.Machine

/-! ## The timer -/

theorem timerAdvance_add (m n : Nat) (s : State) : timerAdvance (m + n) s = timerAdvance n (timerAdvance m s) := by
  induction m generalizing s with
  | zero => simp [timerAdvance]
  | succ m ih => rw [Nat.succ_add]; exact ih (timerCycle s)

/-- One t-cycle of the timer changes the timer and IF alone. -/
theorem timerCycle_frame (s : State) :
    timerCycle s = { s with timer := (timerCycle s).timer, irq := { s.irq with ifl := (timerCycle s).irq.ifl } } := by
  unfold timerCycle timerTick timaStep timaIncrement
  dsimp only
  split_ifs <;> rfl

/-- An advance of the timer changes the timer and IF alone (R340-R343). -/
theorem timerAdvance_frame (n : Nat) (s : State) :
    timerAdvance n s = { s with timer := (timerAdvance n s).timer, irq := { s.irq with ifl := (timerAdvance n s).irq.ifl } } := by
  have key : ∀ n (s : State), ∃ u f, timerAdvance n s = { s with timer := u, irq := { s.irq with ifl := f } } := by
    intro n
    induction n with
    | zero => exact fun s => ⟨s.timer, s.irq.ifl, rfl⟩
    | succ n ih =>
      intro s
      obtain ⟨u, f, e⟩ := ih (timerCycle s)
      exact ⟨u, f, by rw [timerAdvance, e, timerCycle_frame s]⟩
  obtain ⟨u, f, e⟩ := key n s
  rw [e]

theorem timaThreshold_le (sel : BitVec 2) : timaThreshold sel ≤ 64 := by
  unfold timaThreshold
  split_ifs <;> decide

/-- The timer's counters stay in range (R40). -/
theorem timerCycle_ok (s : State) (h : s.timer.ok s.params.timerTick = true) (hp : 0 < s.params.timerTick) :
    (timerCycle s).timer.ok s.params.timerTick = true := by
  have hl := timaThreshold_le (s.timer.tac.setWidth 2)
  simp only [Timer.ok, Bool.and_eq_true, decide_eq_true_eq] at *
  unfold timerCycle timerTick timaStep timaIncrement divStep
  dsimp only
  split_ifs <;> dsimp only [requestIrq] at * <;> omega

theorem timerCycle_inv (s : State) (h : MachineInv s) : MachineInv (timerCycle s) := by
  have hp := h.params
  simp only [paramsOk, Bool.and_eq_true, decide_eq_true_eq] at hp
  have ht := timerCycle_ok s h.timer hp.1
  rw [timerCycle_frame s]
  exact ⟨h.fLowZero, h.bus, h.video, ht, h.cart, h.params⟩

theorem timerAdvance_inv (n : Nat) (s : State) (h : MachineInv s) : MachineInv (timerAdvance n s) := by
  induction n generalizing s with
  | zero => exact h
  | succ n ih => exact ih _ (timerCycle_inv s h)

/-! ## The compositor -/

theorem Frame.ok_put (sh : Config.Shades) (fb : Frame) (p : Config.Rgba) {y x : Nat} (hy : y < 144) (hx : x < 160)
    (h : Frame.ok sh fb = true) : Frame.ok sh (Frame.put sh fb y x p) = true := by
  simp only [Frame.ok, Frame.put, Bool.and_eq_true] at *
  exact ⟨Sparse.wf_set _ p h.1, Sparse.keysBelow_set p (by omega) h.2⟩

/-- What a pass may change: the index buffer and the work frame, both kept in form. -/
def RowStep (sh : Config.Shades) (u w : Video) : Prop :=
  w = { u with bgidx := w.bgidx, fbWork := w.fbWork } ∧ (u.ok sh = true → w.ok sh = true)

theorem RowStep.refl (sh : Config.Shades) (u : Video) : RowStep sh u u := ⟨rfl, id⟩

theorem RowStep.trans {sh : Config.Shades} {u v w : Video} (h : RowStep sh u v) (k : RowStep sh v w) : RowStep sh u w := by
  refine ⟨?_, fun hu => k.2 (h.2 hu)⟩
  rw [k.1, h.1]

theorem RowStep.foldl {sh : Config.Shades} {f : Video → Nat → Video} (n : Nat) (hf : ∀ u i, i < n → RowStep sh u (f u i)) (u : Video) :
    RowStep sh u ((List.range n).foldl f u) := by
  have key : ∀ (l : List Nat) (u : Video), (∀ i ∈ l, i < n) → RowStep sh u (l.foldl f u) := by
    intro l
    induction l with
    | nil => exact fun u _ => .refl sh u
    | cons i l ih =>
      intro u hl
      exact (hf u i (hl i (by simp))).trans (ih _ (fun j hj => hl j (by simp [hj])))
  exact key _ u (fun i hi => List.mem_range.1 hi)

theorem putIndexed_row (sh : Config.Shades) (u : Video) (ci : BitVec 2) (p : Config.Rgba) {y x : Nat} (hy : y < 144) (hx : x < 160) :
    RowStep sh u (putIndexed sh y u x ci p) := by
  refine ⟨rfl, fun h => ?_⟩
  simp only [Video.ok, putIndexed, Bool.and_eq_true] at *
  exact ⟨⟨⟨h.1.1.1, Frame.ok_put sh _ p hy hx h.1.1.2⟩, h.1.2⟩, Sparse.wf_set _ ci h.2.1, Sparse.keysBelow_set ci hx h.2.2⟩

theorem putPixel_row (sh : Config.Shades) (u : Video) (p : Config.Rgba) {y x : Nat} (hy : y < 144) (hx : x < 160) :
    RowStep sh u { u with fbWork := Frame.put sh u.fbWork y x p } := by
  refine ⟨rfl, fun h => ?_⟩
  simp only [Video.ok, Bool.and_eq_true] at *
  exact ⟨⟨⟨h.1.1.1, Frame.ok_put sh _ p hy hx h.1.1.2⟩, h.1.2⟩, h.2⟩

theorem backgroundPass_row (sh : Config.Shades) (vram : Memory) {y : Nat} (hy : y < 144) (u : Video) :
    RowStep sh u (backgroundPass sh vram y u) := by
  refine RowStep.foldl 160 (fun u x hx => ?_) u
  unfold backgroundPixel
  split_ifs <;> exact putIndexed_row sh u _ _ hy hx

theorem windowPass_row (sh : Config.Shades) (vram : Memory) {y : Nat} (hy : y < 144) (u : Video) :
    RowStep sh u (windowPass sh vram y u) := by
  unfold windowPass
  split_ifs
  · refine RowStep.foldl 160 (fun u x hx => ?_) u
    unfold windowPixel
    split_ifs
    · exact putIndexed_row sh u _ _ hy hx
    · exact .refl sh u
  · exact .refl sh u

theorem spritePixel_row (sh : Config.Shades) (vram : Memory) {y : Nat} (hy : y < 144) (ta row : Nat) (sx : Int) (fl : Byte) (u : Video)
    (col : Nat) : RowStep sh u (spritePixel sh vram y ta row sx fl u col) := by
  unfold spritePixel
  dsimp only
  split_ifs
  all_goals first
    | exact putPixel_row sh u _ hy (by omega)
    | exact .refl sh u

theorem spritePass_row (sh : Config.Shades) (vram oam : Memory) {y : Nat} (hy : y < 144) (u : Video) :
    RowStep sh u (spritePass sh vram oam y u) := by
  unfold spritePass
  split_ifs
  · refine RowStep.foldl 40 (fun u i _ => ?_) u
    unfold spriteEntry
    dsimp only
    split
    · exact RowStep.foldl 8 (fun u col _ => spritePixel_row sh vram hy _ _ _ _ u col) u
    · exact .refl sh u
  · exact .refl sh u

/-- RenderLine changes the index buffer and the work frame alone (R360). -/
theorem renderLine_row (sh : Config.Shades) (vram oam : Memory) {y : Nat} (hy : y < 144) (u : Video) :
    RowStep sh u (renderLine sh vram oam y u) :=
  ((backgroundPass_row sh vram hy u).trans (windowPass_row sh vram hy _)).trans (spritePass_row sh vram oam hy _)

/-! ## The scanline state machine -/

theorem videoCycles_add (m n : Nat) (s : State) : videoCycles (m + n) s = videoCycles n (videoCycles m s) := by
  induction m generalizing s with
  | zero => simp [videoCycles]
  | succ m ih => rw [Nat.succ_add]; exact ih (videoCycle s)

theorem MachineInv.withVideo {s : State} (h : MachineInv s) {u : Video} (hu : u.ok s.params.shades = true) : MachineInv (s.withVideo u) :=
  ⟨h.fLowZero, h.bus, hu, h.timer, h.cart, h.params⟩

theorem enterVBlank_inv (s : State) (h : MachineInv s) : MachineInv (enterVBlank s) := by
  unfold enterVBlank
  dsimp only
  refine evaluate_inv _ ?_
  have key : ∀ t : State, MachineInv t → MachineInv (t.withVideo { t.video with fbOut := t.video.fbWork }) := by
    intro t ht
    refine ht.withVideo ?_
    have hv := ht.video
    simp only [Video.ok, Bool.and_eq_true] at *
    exact ⟨⟨hv.1.1, hv.1.1.2⟩, hv.2⟩
  split
  · exact key _ (requestIrq_inv _ _ (requestIrq_inv _ _ h))
  · exact key _ (requestIrq_inv _ _ h)

/-- One video t-cycle keeps the invariant: LY, the mode and the clock move together (R351-R353). -/
theorem videoCycle_inv (s : State) (h : MachineInv s) : MachineInv (videoCycle s) := by
  have hv := h.video
  simp only [Video.ok, Bool.and_eq_true, decide_eq_true_eq] at hv
  obtain ⟨⟨⟨⟨hl, hc⟩, hw⟩, ho⟩, hb⟩ := hv
  have mk : ∀ u : Video, u.lineOk = true → u.vclock < u.mode.length → u.fbWork = s.video.fbWork → u.fbOut = s.video.fbOut →
      u.bgidx = s.video.bgidx → u.ok s.params.shades = true := by
    intro u h1 h2 h3 h4 h5
    simp only [Video.ok, Bool.and_eq_true, decide_eq_true_eq, h1, h2, h3, h4, h5]
    exact ⟨⟨⟨⟨trivial, trivial⟩, hw⟩, ho⟩, hb⟩
  have hly : ∀ k : Nat, s.video.ly.toNat < k → k ≤ 255 → (s.video.ly + 1).toNat = s.video.ly.toNat + 1 := by
    intro k h1 h2
    rw [BitVec.toNat_add]
    exact Nat.mod_eq_of_lt (by simp; omega)
  unfold videoCycle videoTransition
  dsimp only [State.withVideo]
  cases hm : s.video.mode with
  | oamScan =>
    simp only [Video.lineOk, hm, VideoMode.length, decide_eq_true_eq] at hl hc
    dsimp only
    split
    · exact h.withVideo (mk _ (by simp [Video.lineOk, hl]) (by simp [VideoMode.length]) rfl rfl rfl)
    · exact h.withVideo (mk _ (by simp [Video.lineOk, hl]) (by simp only [VideoMode.length]; omega) rfl rfl rfl)
  | drawing =>
    simp only [Video.lineOk, hm, VideoMode.length, decide_eq_true_eq] at hl hc
    dsimp only
    split
    · refine h.withVideo ((renderLine_row _ _ _ hl _).2 ?_)
      exact mk _ (by simp [Video.lineOk, hl]) (by simp [VideoMode.length]) rfl rfl rfl
    · exact h.withVideo (mk _ (by simp [Video.lineOk, hl]) (by simp only [VideoMode.length]; omega) rfl rfl rfl)
  | hblank =>
    simp only [Video.lineOk, hm, VideoMode.length, decide_eq_true_eq] at hl hc
    have hn := hly 144 hl (by omega)
    dsimp only
    split
    · split
      · refine enterVBlank_inv _ (h.withVideo (mk _ ?_ (by simp [VideoMode.length]) rfl rfl rfl))
        next he =>
          have h144 : (s.video.ly + 1).toNat = 144 := by rw [he]; rfl
          simp only [Video.lineOk, h144]
          decide
      · next he =>
        refine h.withVideo (mk _ ?_ (by simp [VideoMode.length]) rfl rfl rfl)
        have : (s.video.ly + 1).toNat ≠ 144 := fun e => he (BitVec.eq_of_toNat_eq e)
        simp only [Video.lineOk, decide_eq_true_eq]
        omega
    · exact h.withVideo (mk _ (by simp [Video.lineOk, hl]) (by simp only [VideoMode.length]; omega) rfl rfl rfl)
  | vblank =>
    simp only [Video.lineOk, hm, VideoMode.length, Bool.and_eq_true, decide_eq_true_eq] at hl hc
    have hn := hly 154 (by omega) (by omega)
    dsimp only
    split
    · split
      · exact h.withVideo (mk _ (by simp [Video.lineOk]) (by simp [VideoMode.length]) rfl rfl rfl)
      · next he =>
        refine h.withVideo (mk _ ?_ (by simp [VideoMode.length]) rfl rfl rfl)
        have : (s.video.ly + 1).toNat ≠ 154 := fun e => he (BitVec.eq_of_toNat_eq e)
        simp only [Video.lineOk, Bool.and_eq_true, decide_eq_true_eq]
        omega
    · exact h.withVideo (mk _ (by simp [Video.lineOk, hl]) (by simp only [VideoMode.length]; omega) rfl rfl rfl)

theorem videoCycles_inv (n : Nat) (s : State) (h : MachineInv s) : MachineInv (videoCycles n s) := by
  induction n generalizing s with
  | zero => exact h
  | succ n ih => exact ih _ (videoCycle_inv s h)

theorem compareLy_inv (s : State) (h : MachineInv s) : MachineInv (compareLy s) := by
  unfold compareLy
  dsimp only
  split
  · split
    · exact requestIrq_inv _ _ (h.withVideo h.video)
    · exact h.withVideo h.video
  · exact h.withVideo h.video

theorem videoAdvance_inv (n : Nat) (s : State) (h : MachineInv s) : MachineInv (videoAdvance n s) := by
  unfold videoAdvance
  split
  · exact compareLy_inv _ (videoCycles_inv n s h)
  · exact h

theorem advancePeripherals_inv (n : Nat) (s : State) (h : MachineInv s) : MachineInv (advancePeripherals n s) :=
  timerAdvance_inv n _ (videoAdvance_inv n s h)

theorem finishStep_inv (n : Nat) (s : State) (h : MachineInv s) : MachineInv (finishStep n s) := by
  unfold finishStep
  dsimp only
  split
  · exact MachineInv.withSys (advancePeripherals_inv _ _ (evaluate_inv _ (advancePeripherals_inv n s h))) _
  · exact MachineInv.withSys (evaluate_inv _ (advancePeripherals_inv n s h)) _

/-! ## What an advance can change -/

/-- A property that survives any change of the video unit, of IF and of the timer, and an interrupt pass, survives an advance of the
peripherals: they do nothing else. -/
theorem advancePeripherals_induct {P : State → Prop} (hv : ∀ s u, P s → P (s.withVideo u))
    (hi : ∀ s f, P s → P { s with irq := { s.irq with ifl := f } })
    (ht : ∀ s u, P s → P { s with timer := u }) (he : ∀ s, P s → P (evaluate s)) (n : Nat) (s : State) (h : P s) :
    P (advancePeripherals n s) := by
  have hvb : ∀ s, P s → P (enterVBlank s) := by
    intro s h
    refine he _ (hv _ _ ?_)
    split
    · exact hi _ _ (hi _ _ h)
    · exact hi _ _ h
  have htr : ∀ s, P s → P (videoTransition s) := by
    intro s h
    unfold videoTransition
    dsimp only
    cases s.video.mode <;> dsimp only
    · split
      · split
        · exact hvb _ (hv _ _ h)
        · exact hv _ _ h
      · exact h
    · split
      · split <;> exact hv _ _ h
      · exact h
    · split
      · exact hv _ _ h
      · exact h
    · split
      · exact hv _ _ h
      · exact h
  have hcyc : ∀ s, P s → P (videoCycle s) := fun s h => htr _ (hv _ _ h)
  have hcycs : ∀ n s, P s → P (videoCycles n s) := by
    intro n
    induction n with
    | zero => exact fun s h => h
    | succ n ih => exact fun s h => ih _ (hcyc s h)
  have hva : P (videoAdvance n s) := by
    unfold videoAdvance compareLy
    dsimp only
    split
    · split
      · split
        · exact hi _ _ (hv _ _ (hcycs n s h))
        · exact hv _ _ (hcycs n s h)
      · exact hv _ _ (hcycs n s h)
    · exact h
  have e := timerAdvance_frame n (videoAdvance n s)
  have := hi _ (timerAdvance n (videoAdvance n s)).irq.ifl (ht _ (timerAdvance n (videoAdvance n s)).timer hva)
  rw [show advancePeripherals n s = timerAdvance n (videoAdvance n s) from rfl, e]
  exact this

/-- What an advance or an interrupt pass never changes: the parameters, the image, the boot buffer, the buttons, the fault, the
reported cost, the breakpoints and the frame's count; and it never turns the overlay on. -/
structure Keeps (s t : State) : Prop where
  params : t.params = s.params
  image : t.cart.image = s.cart.image
  boot : t.bus.boot = s.bus.boot
  overlay : t.bus.overlay = true → s.bus.overlay = true
  buttons : t.joypad.buttons = s.joypad.buttons
  fault : t.sys.fault = s.sys.fault
  cycles : t.sys.cycles = s.sys.cycles
  frameT : t.sys.frameT = s.sys.frameT
  breakpoints : t.sys.breakpoints = s.sys.breakpoints

theorem Keeps.refl (s : State) : Keeps s s := ⟨rfl, rfl, rfl, id, rfl, rfl, rfl, rfl, rfl⟩

theorem Keeps.trans {s t u : State} (h : Keeps s t) (k : Keeps t u) : Keeps s u :=
  ⟨k.1.trans h.1, k.2.trans h.2, k.3.trans h.3, fun e => h.4 (k.4 e), k.5.trans h.5, k.6.trans h.6, k.7.trans h.7, k.8.trans h.8,
    k.9.trans h.9⟩

theorem pushed_keeps (s : State) (v : Word) : Keeps s (pushed s v) where
  params := by simp
  image := by simp
  boot := by simp
  overlay h := memWrite_overlay _ _ _ (memWrite_overlay _ _ _ h)
  buttons := by simp [pushed]
  fault := by simp
  cycles := by simp
  frameT := by simp
  breakpoints := by simp

theorem dispatched_keeps (s : State) (bit : Nat) (vec : Word) : Keeps s (dispatched s bit vec) := by
  have h := pushed_keeps { s with irq := { s.irq with ifl := s.irq.ifl &&& ~~~(1#5 <<< bit) } } s.cpu.pc
  exact ⟨h.1, h.2, h.3, h.4, h.5, h.6, h.7, h.8, h.9⟩

theorem evaluate_keeps (s : State) : Keeps s (evaluate s) := by
  rcases evaluate_cases s with ⟨-, i, -, e⟩ | ⟨-, -, e⟩ | ⟨-, -, -, e⟩ | ⟨-, -, e⟩ <;> rw [e]
  · exact dispatched_keeps _ _ _
  · exact .refl s
  · exact ⟨rfl, rfl, rfl, id, rfl, rfl, rfl, rfl, rfl⟩
  · exact .refl s

theorem advancePeripherals_keeps (n : Nat) (s : State) : Keeps s (advancePeripherals n s) :=
  advancePeripherals_induct (P := Keeps s) (fun _ _ h => ⟨h.1, h.2, h.3, h.4, h.5, h.6, h.7, h.8, h.9⟩)
    (fun _ _ h => ⟨h.1, h.2, h.3, h.4, h.5, h.6, h.7, h.8, h.9⟩) (fun _ _ h => ⟨h.1, h.2, h.3, h.4, h.5, h.6, h.7, h.8, h.9⟩)
    (fun _ h => h.trans (evaluate_keeps _)) n s (.refl s)

theorem finishStep_keeps (n : Nat) (s : State) : Keeps s (finishStep n s) := by
  have h1 := (advancePeripherals_keeps n s).trans (evaluate_keeps _)
  unfold finishStep
  dsimp only
  split
  · have h2 := h1.trans (advancePeripherals_keeps (evaluate (advancePeripherals n s)).sys.dispatchT _)
    exact ⟨h2.1, h2.2, h2.3, h2.4, h2.5, h2.6, h2.7, h2.8, h2.9⟩
  · exact ⟨h1.1, h1.2, h1.3, h1.4, h1.5, h1.6, h1.7, h1.8, h1.9⟩

end Sys2Proof.Machine
end

