-- ==== Sys2Proof/Laws/Effect.lean ====
section
/-! SUPPORT. What an instruction can do, said once for all of them: its writes go to the addresses of `storeAddrs`, in order, and
beside them it changes the processor's registers and the reported cost alone. One line per constructor cites the law of the
shared operation its meaning calls. -/

namespace Sys2Proof.Machine

/-- The state after a list of byte writes, in order. -/
def stores (s : State) (ws : List (Word × Byte)) : State := ws.foldl (fun t w => memWrite t w.1 w.2) s

/-- From `s`, writes to exactly the addresses `addrs` and a change of the processor's registers lead to `u`; F keeps its zero low
nibble, and IME is then `ime`. -/
def Does (s : State) (addrs : List Word) (ime : Bool) (u : State) : Prop :=
  ∃ ws c, u = (stores s ws).withCpu c ∧ ws.map Prod.fst = addrs ∧ (s.cpu.f &&& 0x0F = 0 → c.f &&& 0x0F = 0) ∧ c.ime = ime

/-- An opcode index whose row has a cost (every row but the illegal opcodes and the bare prefix). -/
def hasCost (op : Nat) : Bool :=
  decide (0 < (defaultCost op).taken) && decide ((defaultCost op).taken % 4 = 0) && decide (0 < (defaultCost op).notTaken) &&
    decide ((defaultCost op).notTaken % 4 = 0)

/-- `n` is the taken or the not-taken cost of such a row. -/
def Charges (p : Config.Params) (n : Nat) : Prop :=
  ∃ op, hasCost op = true ∧ (n = (opcodeCost p op).taken ∨ n = (opcodeCost p op).notTaken)

/-- Such a cost is a positive multiple of 4, whatever P_CYCLES lists in its domain (R14). -/
theorem Charges.pos {p : Config.Params} {n : Nat} (hp : paramsOk p = true) (h : Charges p n) : 0 < n ∧ n % 4 = 0 := by
  obtain ⟨op, hc, hn⟩ := h
  simp only [paramsOk, Bool.and_eq_true, List.all_eq_true, decide_eq_true_eq] at hp
  simp only [hasCost, Bool.and_eq_true, decide_eq_true_eq] at hc
  have key : ∀ l : List (Nat × Config.Cost), (∀ e ∈ l, ((0 < e.2.taken ∧ e.2.taken % 4 = 0) ∧ 0 < e.2.notTaken) ∧ e.2.notTaken % 4 = 0) →
      ((0 < (Sparse.get (defaultCost op) l op).taken ∧ (Sparse.get (defaultCost op) l op).taken % 4 = 0) ∧
        0 < (Sparse.get (defaultCost op) l op).notTaken) ∧ (Sparse.get (defaultCost op) l op).notTaken % 4 = 0 := by
    intro l
    induction l with
    | nil => exact fun _ => hc
    | cons e l ih =>
      intro hl
      simp only [Sparse.get]
      split
      · exact hl e (by simp)
      · exact ih (fun x hx => hl x (by simp [hx]))
  have k := key p.cycles hp.2
  rcases hn with rfl | rfl
  · exact k.1.1
  · exact ⟨k.1.2, k.2⟩

/-- Every extended row has a cost. -/
theorem hasCost_extended (b1 : Byte) : hasCost (0x100 + b1.toNat) = true := by
  revert b1
  decide +kernel

/-! ## Writes -/

@[simp] theorem stores_nil (s : State) : stores s [] = s := rfl

theorem stores_cons (s : State) (w : Word × Byte) (ws : List (Word × Byte)) : stores s (w :: ws) = stores (memWrite s w.1 w.2) ws := rfl

/-- What any list of writes leaves alone. -/
theorem stores_frame (s : State) (ws : List (Word × Byte)) :
    (stores s ws).cpu = s.cpu ∧ (stores s ws).sys = s.sys ∧ (stores s ws).params = s.params ∧
      (stores s ws).cart.image = s.cart.image ∧ (stores s ws).bus.boot = s.bus.boot ∧
      ((stores s ws).bus.overlay = true → s.bus.overlay = true) ∧ (stores s ws).joypad.buttons = s.joypad.buttons := by
  induction ws generalizing s with
  | nil => exact ⟨rfl, rfl, rfl, rfl, rfl, id, rfl⟩
  | cons w ws ih =>
    rw [stores_cons]
    obtain ⟨h1, h2, h3, h4, h5, h6, h7⟩ := ih (memWrite s w.1 w.2)
    exact ⟨by rw [h1]; simp, by rw [h2]; simp, by rw [h3]; simp, by rw [h4]; simp, by rw [h5]; simp,
      fun h => memWrite_overlay _ _ _ (h6 h), by rw [h7]; exact memWrite_buttons _ _ _⟩

/-- Writes and a change of the processor's registers commute. -/
theorem stores_withCpu (s : State) (c : Cpu) (ws : List (Word × Byte)) : stores (s.withCpu c) ws = (stores s ws).withCpu c := by
  induction ws generalizing s with
  | nil => rfl
  | cons w ws ih => rw [stores_cons, memWrite_withCpu, ih, stores_cons]

theorem stores_inv (s : State) (ws : List (Word × Byte)) (h : MachineInv s) : MachineInv (stores s ws) := by
  induction ws generalizing s with
  | nil => exact h
  | cons w ws ih => exact ih _ (memWrite_inv _ _ _ h)

/-! ## The shapes of an effect -/

theorem does_nothing (s : State) : Does s [] s.cpu.ime s := ⟨[], s.cpu, rfl, rfl, id, rfl⟩

/-- Registers other than F and IME. -/
theorem does_cpu {s : State} {c : Cpu} (hf : c.f = s.cpu.f) (hi : c.ime = s.cpu.ime) : Does s [] s.cpu.ime (s.withCpu c) :=
  ⟨[], c, rfl, rfl, fun h => by rw [hf]; exact h, hi⟩

/-- Registers other than F, and IME. -/
theorem does_ime {s : State} {c : Cpu} {b : Bool} (hf : c.f = s.cpu.f) (hi : c.ime = b) : Does s [] b (s.withCpu c) :=
  ⟨[], c, rfl, rfl, fun h => by rw [hf]; exact h, hi⟩

/-- Registers, and F from a flags record. -/
theorem does_flags {s : State} {c : Cpu} (g : Flags) (hf : c.f = g.toByte) (hi : c.ime = s.cpu.ime) :
    Does s [] s.cpu.ime (s.withCpu c) :=
  ⟨[], c, rfl, rfl, fun _ => by rw [hf]; exact g.toByte_low, hi⟩

theorem does_store (s : State) (a : Word) (v : Byte) : Does s [a] s.cpu.ime (memWrite s a v) :=
  ⟨[(a, v)], (memWrite s a v).cpu, rfl, rfl, fun h => by simpa using h, by simp⟩

theorem does_store2 (s : State) (a b : Word) (v w : Byte) : Does s [a, b] s.cpu.ime (memWrite (memWrite s a v) b w) :=
  ⟨[(a, v), (b, w)], (memWrite (memWrite s a v) b w).cpu, rfl, rfl, fun h => by simpa using h, by simp⟩

/-- The addresses an r8 operand is stored to. -/
def r8Addrs (x : R8) (s : State) : List Word :=
  match x with
  | .reg _ => []
  | .atHL => [s.cpu.hl]

/-- An r8 operand written, and F kept. -/
theorem writeR8_does (x : R8) (v : Byte) (s : State) : Does s (r8Addrs x s) s.cpu.ime (s.writeR8 x v) := by
  cases x with
  | reg r => exact does_cpu (by simp) (by simp)
  | atHL => exact does_store _ _ _

/-- An r8 operand and the flags written. -/
theorem writeR8_flags_does (x : R8) (v : Byte) (g : Flags) (s : State) :
    Does s (r8Addrs x s) s.cpu.ime ((s.writeR8 x v).setFlags g) := by
  cases x with
  | reg r => exact does_flags g rfl (by simp [State.writeR8, State.setReg])
  | atHL => exact ⟨[(s.cpu.hl, v)], _, rfl, rfl, fun _ => g.toByte_low, by simp [State.writeR8]⟩

/-! ## The shared operations of the meanings -/

theorem aluOp_does (o : AluOp) (v : Byte) (s : State) : Does s [] s.cpu.ime (aluOp o v s) := does_flags _ rfl rfl

theorem incOp_does (x : R8) (s : State) : Does s (r8Addrs x s) s.cpu.ime (incOp x s) := writeR8_flags_does x _ _ s

theorem decOp_does (x : R8) (s : State) : Does s (r8Addrs x s) s.cpu.ime (decOp x s) := writeR8_flags_does x _ _ s

theorem daaOp_does (s : State) : Does s [] s.cpu.ime (daaOp s) := does_flags _ rfl rfl

theorem cplOp_does (s : State) : Does s [] s.cpu.ime (cplOp s) := does_flags _ rfl rfl

theorem scfOp_does (s : State) : Does s [] s.cpu.ime (scfOp s) := does_flags _ rfl rfl

theorem ccfOp_does (s : State) : Does s [] s.cpu.ime (ccfOp s) := does_flags _ rfl rfl

theorem addHLOp_does (p : Reg16) (s : State) : Does s [] s.cpu.ime (addHLOp p s) := does_flags _ rfl rfl

theorem addSpOp_does (e : Byte) (s : State) : Does s [] s.cpu.ime (addSpOp e s) := does_flags _ rfl rfl

theorem ldHLSpOp_does (e : Byte) (s : State) : Does s [] s.cpu.ime (ldHLSpOp e s) := does_flags _ rfl rfl

theorem accRotOpr_does (k : AccRot) (s : State) : Does s [] s.cpu.ime (accRotOpr k s) := does_flags _ rfl rfl

theorem rotOpr_does (o : RotOp) (x : R8) (s : State) : Does s (r8Addrs x s) s.cpu.ime (rotOpr o x s) := writeR8_flags_does x _ _ s

theorem bitOpr_does (b : Idx8) (x : R8) (s : State) : Does s [] s.cpu.ime (bitOpr b x s) := does_flags _ rfl rfl

theorem resOpr_does (b : Idx8) (x : R8) (s : State) : Does s (r8Addrs x s) s.cpu.ime (resOpr b x s) := writeR8_does x _ s

theorem setOpr_does (b : Idx8) (x : R8) (s : State) : Does s (r8Addrs x s) s.cpu.ime (setOpr b x s) := writeR8_does x _ s

theorem popAf_does (s : State) : Does s [] s.cpu.ime (popStk .af s) :=
  ⟨[], (popStk .af s).cpu, rfl, rfl, fun _ => maskF_low _, rfl⟩

theorem storeAStep_does (delta : Word) (s : State) : Does s [s.cpu.hl] s.cpu.ime (storeAStep delta s) :=
  ⟨[(s.cpu.hl, s.cpu.a)], _, rfl, rfl, fun h => by simpa [storeReg, Cpu.setHL] using h, by simp [storeReg, Cpu.setHL]⟩

theorem pushed_does (s : State) (v : Word) : Does s (pushAddrs s) s.cpu.ime (push16 s v) := by
  rw [push16_eq]
  exact ⟨[(s.cpu.sp - 1, _), (s.cpu.sp - 2, _)], _, rfl, rfl, id, rfl⟩

theorem callTo_does (t : Word) (s : State) : Does s (pushAddrs s) s.cpu.ime (callTo t s) := by
  simp only [callTo, push16_eq]
  exact ⟨[(s.cpu.sp - 1, _), (s.cpu.sp - 2, _)], _, rfl, rfl, id, rfl⟩

theorem cond_call_does (b : Bool) (t : Word) (s : State) :
    Does s (if b then pushAddrs s else []) s.cpu.ime (onCond b (callTo t) s) := by
  cases b
  · exact does_nothing s
  · exact callTo_does t s

theorem cond_cpu_does (b : Bool) (f : State → State) (s : State) {c : Cpu} (e : f s = s.withCpu c)
    (hf : c.f = s.cpu.f ∧ c.ime = s.cpu.ime) : Does s [] s.cpu.ime (onCond b f s) := by
  cases b
  · exact does_nothing s
  · exact (show onCond true f s = s.withCpu c from e) ▸ does_cpu hf.1 hf.2

/-- The extended instructions by their second byte (R295): what the prefix runs. -/
theorem extendedOp_does (b1 : Byte) (s : State) : ∃ addrs, Does s addrs s.cpu.ime (extendedOp b1 s) := by
  unfold extendedOp
  dsimp only
  split_ifs
  · exact ⟨_, rotOpr_does _ _ s⟩
  · exact ⟨_, bitOpr_does _ _ s⟩
  · exact ⟨_, resOpr_does _ _ s⟩
  · exact ⟨_, setOpr_does _ _ s⟩

/-! ## All instructions -/

/-- IME after an instruction (R29). -/
def imeAfter (i : Instr) (s : State) : Bool :=
  match i with
  | .ei | .reti => true
  | .di => false
  | _ => s.cpu.ime

/-- What an instruction other than the bare prefix and the illegal opcodes does. -/
def Completes (i : Instr) (s : State) : Prop :=
  ∃ u n, exec i s = .next (u.setCycles n) ∧ Does s (storeAddrsOf i s) (imeAfter i s) u ∧ Charges s.params n

theorem done {i : Instr} {s u : State} (op : Nat) (h : hasCost op = true) (hd : Does s (storeAddrsOf i s) (imeAfter i s) u)
    (he : exec i s = retire op u := by rfl) : Completes i s := by
  refine ⟨u, _, he, hd, op, h, .inl ?_⟩
  obtain ⟨ws, c, rfl, -⟩ := hd
  rw [withCpu_params, (stores_frame s ws).2.2.1]

theorem doneCond {i : Instr} {s u : State} {b : Bool} (op : Nat) (h : hasCost op = true) (hd : Does s (storeAddrsOf i s) (imeAfter i s) u)
    (he : exec i s = retireCond op b u := by rfl) : Completes i s := by
  have hp : u.params = s.params := by
    obtain ⟨ws, c, rfl, -⟩ := hd
    rw [withCpu_params, (stores_frame s ws).2.2.1]
  refine ⟨u, _, he, hd, op, h, ?_⟩
  rw [hp]
  cases b
  · exact .inr rfl
  · exact .inl rfl

/-- Every instruction but the bare prefix and the illegal opcodes: one line each. -/
theorem exec_completes (i : Instr) (s : State) (hp : i ≠ .prefix_cb) (hk : ∀ k, i ≠ .illegal k) : Completes i s :=
  match i with
  | .nop => done (u := s) 0x00 (by decide +kernel) (does_nothing s)
  | .ld_bc_nn nn => done (u := s.setPair .bc nn) 0x01 (by decide +kernel) (does_cpu rfl rfl)
  | .ld_atBC_a => done (u := storeReg .a s.cpu.bc s) 0x02 (by decide +kernel) (does_store s _ _)
  | .inc_bc => done (u := incPairOp .bc s) 0x03 (by decide +kernel) (does_cpu rfl rfl)
  | .inc_b => done (u := incOp (.reg .b) s) 0x04 (by decide +kernel) (incOp_does (.reg .b) s)
  | .dec_b => done (u := decOp (.reg .b) s) 0x05 (by decide +kernel) (decOp_does (.reg .b) s)
  | .ld_b_n n => done (u := ldRegImm .b n s) 0x06 (by decide +kernel) (does_cpu rfl rfl)
  | .rlca => done (u := accRotOpr .rlca s) 0x07 (by decide +kernel) (accRotOpr_does .rlca s)
  | .ld_atnn_sp nn => done (u := memWrite16 s nn s.cpu.sp) 0x08 (by decide +kernel) (does_store2 s _ _ _ _)
  | .add_hl_bc => done (u := addHLOp .bc s) 0x09 (by decide +kernel) (addHLOp_does .bc s)
  | .ld_a_atBC => done (u := loadReg .a s.cpu.bc s) 0x0A (by decide +kernel) (does_cpu rfl rfl)
  | .dec_bc => done (u := decPairOp .bc s) 0x0B (by decide +kernel) (does_cpu rfl rfl)
  | .inc_c => done (u := incOp (.reg .c) s) 0x0C (by decide +kernel) (incOp_does (.reg .c) s)
  | .dec_c => done (u := decOp (.reg .c) s) 0x0D (by decide +kernel) (decOp_does (.reg .c) s)
  | .ld_c_n n => done (u := ldRegImm .c n s) 0x0E (by decide +kernel) (does_cpu rfl rfl)
  | .rrca => done (u := accRotOpr .rrca s) 0x0F (by decide +kernel) (accRotOpr_does .rrca s)
  | .stop => done (u := stopOp s) 0x10 (by decide +kernel) (does_cpu rfl rfl)
  | .ld_de_nn nn => done (u := s.setPair .de nn) 0x11 (by decide +kernel) (does_cpu rfl rfl)
  | .ld_atDE_a => done (u := storeReg .a s.cpu.de s) 0x12 (by decide +kernel) (does_store s _ _)
  | .inc_de => done (u := incPairOp .de s) 0x13 (by decide +kernel) (does_cpu rfl rfl)
  | .inc_d => done (u := incOp (.reg .d) s) 0x14 (by decide +kernel) (incOp_does (.reg .d) s)
  | .dec_d => done (u := decOp (.reg .d) s) 0x15 (by decide +kernel) (decOp_does (.reg .d) s)
  | .ld_d_n n => done (u := ldRegImm .d n s) 0x16 (by decide +kernel) (does_cpu rfl rfl)
  | .rla => done (u := accRotOpr .rla s) 0x17 (by decide +kernel) (accRotOpr_does .rla s)
  | .jr_e e => done (u := jumpRel e s) 0x18 (by decide +kernel) (does_cpu rfl rfl)
  | .add_hl_de => done (u := addHLOp .de s) 0x19 (by decide +kernel) (addHLOp_does .de s)
  | .ld_a_atDE => done (u := loadReg .a s.cpu.de s) 0x1A (by decide +kernel) (does_cpu rfl rfl)
  | .dec_de => done (u := decPairOp .de s) 0x1B (by decide +kernel) (does_cpu rfl rfl)
  | .inc_e => done (u := incOp (.reg .e) s) 0x1C (by decide +kernel) (incOp_does (.reg .e) s)
  | .dec_e => done (u := decOp (.reg .e) s) 0x1D (by decide +kernel) (decOp_does (.reg .e) s)
  | .ld_e_n n => done (u := ldRegImm .e n s) 0x1E (by decide +kernel) (does_cpu rfl rfl)
  | .rra => done (u := accRotOpr .rra s) 0x1F (by decide +kernel) (accRotOpr_does .rra s)
  | .jr_nz_e e => doneCond 0x20 (by decide +kernel) (cond_cpu_does (s.cpu.cond .nz) (jumpRel e) s rfl ⟨rfl, rfl⟩)
  | .ld_hl_nn nn => done (u := s.setPair .hl nn) 0x21 (by decide +kernel) (does_cpu rfl rfl)
  | .ld_atHLi_a => done (u := storeAStep 1 s) 0x22 (by decide +kernel) (storeAStep_does _ s)
  | .inc_hl => done (u := incPairOp .hl s) 0x23 (by decide +kernel) (does_cpu rfl rfl)
  | .inc_h => done (u := incOp (.reg .h) s) 0x24 (by decide +kernel) (incOp_does (.reg .h) s)
  | .dec_h => done (u := decOp (.reg .h) s) 0x25 (by decide +kernel) (decOp_does (.reg .h) s)
  | .ld_h_n n => done (u := ldRegImm .h n s) 0x26 (by decide +kernel) (does_cpu rfl rfl)
  | .daa => done (u := daaOp s) 0x27 (by decide +kernel) (daaOp_does s)
  | .jr_z_e e => doneCond 0x28 (by decide +kernel) (cond_cpu_does (s.cpu.cond .z) (jumpRel e) s rfl ⟨rfl, rfl⟩)
  | .add_hl_hl => done (u := addHLOp .hl s) 0x29 (by decide +kernel) (addHLOp_does .hl s)
  | .ld_a_atHLi => done (u := loadAStep 1 s) 0x2A (by decide +kernel) (does_cpu rfl rfl)
  | .dec_hl => done (u := decPairOp .hl s) 0x2B (by decide +kernel) (does_cpu rfl rfl)
  | .inc_l => done (u := incOp (.reg .l) s) 0x2C (by decide +kernel) (incOp_does (.reg .l) s)
  | .dec_l => done (u := decOp (.reg .l) s) 0x2D (by decide +kernel) (decOp_does (.reg .l) s)
  | .ld_l_n n => done (u := ldRegImm .l n s) 0x2E (by decide +kernel) (does_cpu rfl rfl)
  | .cpl => done (u := cplOp s) 0x2F (by decide +kernel) (cplOp_does s)
  | .jr_nc_e e => doneCond 0x30 (by decide +kernel) (cond_cpu_does (s.cpu.cond .nc) (jumpRel e) s rfl ⟨rfl, rfl⟩)
  | .ld_sp_nn nn => done (u := s.setPair .sp nn) 0x31 (by decide +kernel) (does_cpu rfl rfl)
  | .ld_atHLd_a => done (u := storeAStep (-1) s) 0x32 (by decide +kernel) (storeAStep_does _ s)
  | .inc_sp => done (u := incPairOp .sp s) 0x33 (by decide +kernel) (does_cpu rfl rfl)
  | .inc_atHL => done (u := incOp .atHL s) 0x34 (by decide +kernel) (incOp_does .atHL s)
  | .dec_atHL => done (u := decOp .atHL s) 0x35 (by decide +kernel) (decOp_does .atHL s)
  | .ld_atHL_n n => done (u := memWrite s s.cpu.hl n) 0x36 (by decide +kernel) (does_store s _ _)
  | .scf => done (u := scfOp s) 0x37 (by decide +kernel) (scfOp_does s)
  | .jr_c_e e => doneCond 0x38 (by decide +kernel) (cond_cpu_does (s.cpu.cond .c) (jumpRel e) s rfl ⟨rfl, rfl⟩)
  | .add_hl_sp => done (u := addHLOp .sp s) 0x39 (by decide +kernel) (addHLOp_does .sp s)
  | .ld_a_atHLd => done (u := loadAStep (-1) s) 0x3A (by decide +kernel) (does_cpu rfl rfl)
  | .dec_sp => done (u := decPairOp .sp s) 0x3B (by decide +kernel) (does_cpu rfl rfl)
  | .inc_a => done (u := incOp (.reg .a) s) 0x3C (by decide +kernel) (incOp_does (.reg .a) s)
  | .dec_a => done (u := decOp (.reg .a) s) 0x3D (by decide +kernel) (decOp_does (.reg .a) s)
  | .ld_a_n n => done (u := ldRegImm .a n s) 0x3E (by decide +kernel) (does_cpu rfl rfl)
  | .ccf => done (u := ccfOp s) 0x3F (by decide +kernel) (ccfOp_does s)
  | .ld_b_b => done (u := ldRegReg .b .b s) 0x40 (by decide +kernel) (does_cpu rfl rfl)
  | .ld_b_c => done (u := ldRegReg .b .c s) 0x41 (by decide +kernel) (does_cpu rfl rfl)
  | .ld_b_d => done (u := ldRegReg .b .d s) 0x42 (by decide +kernel) (does_cpu rfl rfl)
  | .ld_b_e => done (u := ldRegReg .b .e s) 0x43 (by decide +kernel) (does_cpu rfl rfl)
  | .ld_b_h => done (u := ldRegReg .b .h s) 0x44 (by decide +kernel) (does_cpu rfl rfl)
  | .ld_b_l => done (u := ldRegReg .b .l s) 0x45 (by decide +kernel) (does_cpu rfl rfl)
  | .ld_b_atHL => done (u := loadReg .b s.cpu.hl s) 0x46 (by decide +kernel) (does_cpu rfl rfl)
  | .ld_b_a => done (u := ldRegReg .b .a s) 0x47 (by decide +kernel) (does_cpu rfl rfl)
  | .ld_c_b => done (u := ldRegReg .c .b s) 0x48 (by decide +kernel) (does_cpu rfl rfl)
  | .ld_c_c => done (u := ldRegReg .c .c s) 0x49 (by decide +kernel) (does_cpu rfl rfl)
  | .ld_c_d => done (u := ldRegReg .c .d s) 0x4A (by decide +kernel) (does_cpu rfl rfl)
  | .ld_c_e => done (u := ldRegReg .c .e s) 0x4B (by decide +kernel) (does_cpu rfl rfl)
  | .ld_c_h => done (u := ldRegReg .c .h s) 0x4C (by decide +kernel) (does_cpu rfl rfl)
  | .ld_c_l => done (u := ldRegReg .c .l s) 0x4D (by decide +kernel) (does_cpu rfl rfl)
  | .ld_c_atHL => done (u := loadReg .c s.cpu.hl s) 0x4E (by decide +kernel) (does_cpu rfl rfl)
  | .ld_c_a => done (u := ldRegReg .c .a s) 0x4F (by decide +kernel) (does_cpu rfl rfl)
  | .ld_d_b => done (u := ldRegReg .d .b s) 0x50 (by decide +kernel) (does_cpu rfl rfl)
  | .ld_d_c => done (u := ldRegReg .d .c s) 0x51 (by decide +kernel) (does_cpu rfl rfl)
  | .ld_d_d => done (u := ldRegReg .d .d s) 0x52 (by decide +kernel) (does_cpu rfl rfl)
  | .ld_d_e => done (u := ldRegReg .d .e s) 0x53 (by decide +kernel) (does_cpu rfl rfl)
  | .ld_d_h => done (u := ldRegReg .d .h s) 0x54 (by decide +kernel) (does_cpu rfl rfl)
  | .ld_d_l => done (u := ldRegReg .d .l s) 0x55 (by decide +kernel) (does_cpu rfl rfl)
  | .ld_d_atHL => done (u := loadReg .d s.cpu.hl s) 0x56 (by decide +kernel) (does_cpu rfl rfl)
  | .ld_d_a => done (u := ldRegReg .d .a s) 0x57 (by decide +kernel) (does_cpu rfl rfl)
  | .ld_e_b => done (u := ldRegReg .e .b s) 0x58 (by decide +kernel) (does_cpu rfl rfl)
  | .ld_e_c => done (u := ldRegReg .e .c s) 0x59 (by decide +kernel) (does_cpu rfl rfl)
  | .ld_e_d => done (u := ldRegReg .e .d s) 0x5A (by decide +kernel) (does_cpu rfl rfl)
  | .ld_e_e => done (u := ldRegReg .e .e s) 0x5B (by decide +kernel) (does_cpu rfl rfl)
  | .ld_e_h => done (u := ldRegReg .e .h s) 0x5C (by decide +kernel) (does_cpu rfl rfl)
  | .ld_e_l => done (u := ldRegReg .e .l s) 0x5D (by decide +kernel) (does_cpu rfl rfl)
  | .ld_e_atHL => done (u := loadReg .e s.cpu.hl s) 0x5E (by decide +kernel) (does_cpu rfl rfl)
  | .ld_e_a => done (u := ldRegReg .e .a s) 0x5F (by decide +kernel) (does_cpu rfl rfl)
  | .ld_h_b => done (u := ldRegReg .h .b s) 0x60 (by decide +kernel) (does_cpu rfl rfl)
  | .ld_h_c => done (u := ldRegReg .h .c s) 0x61 (by decide +kernel) (does_cpu rfl rfl)
  | .ld_h_d => done (u := ldRegReg .h .d s) 0x62 (by decide +kernel) (does_cpu rfl rfl)
  | .ld_h_e => done (u := ldRegReg .h .e s) 0x63 (by decide +kernel) (does_cpu rfl rfl)
  | .ld_h_h => done (u := ldRegReg .h .h s) 0x64 (by decide +kernel) (does_cpu rfl rfl)
  | .ld_h_l => done (u := ldRegReg .h .l s) 0x65 (by decide +kernel) (does_cpu rfl rfl)
  | .ld_h_atHL => done (u := loadReg .h s.cpu.hl s) 0x66 (by decide +kernel) (does_cpu rfl rfl)
  | .ld_h_a => done (u := ldRegReg .h .a s) 0x67 (by decide +kernel) (does_cpu rfl rfl)
  | .ld_l_b => done (u := ldRegReg .l .b s) 0x68 (by decide +kernel) (does_cpu rfl rfl)
  | .ld_l_c => done (u := ldRegReg .l .c s) 0x69 (by decide +kernel) (does_cpu rfl rfl)
  | .ld_l_d => done (u := ldRegReg .l .d s) 0x6A (by decide +kernel) (does_cpu rfl rfl)
  | .ld_l_e => done (u := ldRegReg .l .e s) 0x6B (by decide +kernel) (does_cpu rfl rfl)
  | .ld_l_h => done (u := ldRegReg .l .h s) 0x6C (by decide +kernel) (does_cpu rfl rfl)
  | .ld_l_l => done (u := ldRegReg .l .l s) 0x6D (by decide +kernel) (does_cpu rfl rfl)
  | .ld_l_atHL => done (u := loadReg .l s.cpu.hl s) 0x6E (by decide +kernel) (does_cpu rfl rfl)
  | .ld_l_a => done (u := ldRegReg .l .a s) 0x6F (by decide +kernel) (does_cpu rfl rfl)
  | .ld_atHL_b => done (u := storeReg .b s.cpu.hl s) 0x70 (by decide +kernel) (does_store s _ _)
  | .ld_atHL_c => done (u := storeReg .c s.cpu.hl s) 0x71 (by decide +kernel) (does_store s _ _)
  | .ld_atHL_d => done (u := storeReg .d s.cpu.hl s) 0x72 (by decide +kernel) (does_store s _ _)
  | .ld_atHL_e => done (u := storeReg .e s.cpu.hl s) 0x73 (by decide +kernel) (does_store s _ _)
  | .ld_atHL_h => done (u := storeReg .h s.cpu.hl s) 0x74 (by decide +kernel) (does_store s _ _)
  | .ld_atHL_l => done (u := storeReg .l s.cpu.hl s) 0x75 (by decide +kernel) (does_store s _ _)
  | .halt => done (u := haltOp s) 0x76 (by decide +kernel) (does_cpu rfl rfl)
  | .ld_atHL_a => done (u := storeReg .a s.cpu.hl s) 0x77 (by decide +kernel) (does_store s _ _)
  | .ld_a_b => done (u := ldRegReg .a .b s) 0x78 (by decide +kernel) (does_cpu rfl rfl)
  | .ld_a_c => done (u := ldRegReg .a .c s) 0x79 (by decide +kernel) (does_cpu rfl rfl)
  | .ld_a_d => done (u := ldRegReg .a .d s) 0x7A (by decide +kernel) (does_cpu rfl rfl)
  | .ld_a_e => done (u := ldRegReg .a .e s) 0x7B (by decide +kernel) (does_cpu rfl rfl)
  | .ld_a_h => done (u := ldRegReg .a .h s) 0x7C (by decide +kernel) (does_cpu rfl rfl)
  | .ld_a_l => done (u := ldRegReg .a .l s) 0x7D (by decide +kernel) (does_cpu rfl rfl)
  | .ld_a_atHL => done (u := loadReg .a s.cpu.hl s) 0x7E (by decide +kernel) (does_cpu rfl rfl)
  | .ld_a_a => done (u := ldRegReg .a .a s) 0x7F (by decide +kernel) (does_cpu rfl rfl)
  | .add_a_b => done (u := aluOp .add (s.readR8 (.reg .b)) s) 0x80 (by decide +kernel) (aluOp_does .add _ s)
  | .add_a_c => done (u := aluOp .add (s.readR8 (.reg .c)) s) 0x81 (by decide +kernel) (aluOp_does .add _ s)
  | .add_a_d => done (u := aluOp .add (s.readR8 (.reg .d)) s) 0x82 (by decide +kernel) (aluOp_does .add _ s)
  | .add_a_e => done (u := aluOp .add (s.readR8 (.reg .e)) s) 0x83 (by decide +kernel) (aluOp_does .add _ s)
  | .add_a_h => done (u := aluOp .add (s.readR8 (.reg .h)) s) 0x84 (by decide +kernel) (aluOp_does .add _ s)
  | .add_a_l => done (u := aluOp .add (s.readR8 (.reg .l)) s) 0x85 (by decide +kernel) (aluOp_does .add _ s)
  | .add_a_atHL => done (u := aluOp .add (s.readR8 .atHL) s) 0x86 (by decide +kernel) (aluOp_does .add _ s)
  | .add_a_a => done (u := aluOp .add (s.readR8 (.reg .a)) s) 0x87 (by decide +kernel) (aluOp_does .add _ s)
  | .adc_a_b => done (u := aluOp .adc (s.readR8 (.reg .b)) s) 0x88 (by decide +kernel) (aluOp_does .adc _ s)
  | .adc_a_c => done (u := aluOp .adc (s.readR8 (.reg .c)) s) 0x89 (by decide +kernel) (aluOp_does .adc _ s)
  | .adc_a_d => done (u := aluOp .adc (s.readR8 (.reg .d)) s) 0x8A (by decide +kernel) (aluOp_does .adc _ s)
  | .adc_a_e => done (u := aluOp .adc (s.readR8 (.reg .e)) s) 0x8B (by decide +kernel) (aluOp_does .adc _ s)
  | .adc_a_h => done (u := aluOp .adc (s.readR8 (.reg .h)) s) 0x8C (by decide +kernel) (aluOp_does .adc _ s)
  | .adc_a_l => done (u := aluOp .adc (s.readR8 (.reg .l)) s) 0x8D (by decide +kernel) (aluOp_does .adc _ s)
  | .adc_a_atHL => done (u := aluOp .adc (s.readR8 .atHL) s) 0x8E (by decide +kernel) (aluOp_does .adc _ s)
  | .adc_a_a => done (u := aluOp .adc (s.readR8 (.reg .a)) s) 0x8F (by decide +kernel) (aluOp_does .adc _ s)
  | .sub_a_b => done (u := aluOp .sub (s.readR8 (.reg .b)) s) 0x90 (by decide +kernel) (aluOp_does .sub _ s)
  | .sub_a_c => done (u := aluOp .sub (s.readR8 (.reg .c)) s) 0x91 (by decide +kernel) (aluOp_does .sub _ s)
  | .sub_a_d => done (u := aluOp .sub (s.readR8 (.reg .d)) s) 0x92 (by decide +kernel) (aluOp_does .sub _ s)
  | .sub_a_e => done (u := aluOp .sub (s.readR8 (.reg .e)) s) 0x93 (by decide +kernel) (aluOp_does .sub _ s)
  | .sub_a_h => done (u := aluOp .sub (s.readR8 (.reg .h)) s) 0x94 (by decide +kernel) (aluOp_does .sub _ s)
  | .sub_a_l => done (u := aluOp .sub (s.readR8 (.reg .l)) s) 0x95 (by decide +kernel) (aluOp_does .sub _ s)
  | .sub_a_atHL => done (u := aluOp .sub (s.readR8 .atHL) s) 0x96 (by decide +kernel) (aluOp_does .sub _ s)
  | .sub_a_a => done (u := aluOp .sub (s.readR8 (.reg .a)) s) 0x97 (by decide +kernel) (aluOp_does .sub _ s)
  | .sbc_a_b => done (u := aluOp .sbc (s.readR8 (.reg .b)) s) 0x98 (by decide +kernel) (aluOp_does .sbc _ s)
  | .sbc_a_c => done (u := aluOp .sbc (s.readR8 (.reg .c)) s) 0x99 (by decide +kernel) (aluOp_does .sbc _ s)
  | .sbc_a_d => done (u := aluOp .sbc (s.readR8 (.reg .d)) s) 0x9A (by decide +kernel) (aluOp_does .sbc _ s)
  | .sbc_a_e => done (u := aluOp .sbc (s.readR8 (.reg .e)) s) 0x9B (by decide +kernel) (aluOp_does .sbc _ s)
  | .sbc_a_h => done (u := aluOp .sbc (s.readR8 (.reg .h)) s) 0x9C (by decide +kernel) (aluOp_does .sbc _ s)
  | .sbc_a_l => done (u := aluOp .sbc (s.readR8 (.reg .l)) s) 0x9D (by decide +kernel) (aluOp_does .sbc _ s)
  | .sbc_a_atHL => done (u := aluOp .sbc (s.readR8 .atHL) s) 0x9E (by decide +kernel) (aluOp_does .sbc _ s)
  | .sbc_a_a => done (u := aluOp .sbc (s.readR8 (.reg .a)) s) 0x9F (by decide +kernel) (aluOp_does .sbc _ s)
  | .and_a_b => done (u := aluOp .and (s.readR8 (.reg .b)) s) 0xA0 (by decide +kernel) (aluOp_does .and _ s)
  | .and_a_c => done (u := aluOp .and (s.readR8 (.reg .c)) s) 0xA1 (by decide +kernel) (aluOp_does .and _ s)
  | .and_a_d => done (u := aluOp .and (s.readR8 (.reg .d)) s) 0xA2 (by decide +kernel) (aluOp_does .and _ s)
  | .and_a_e => done (u := aluOp .and (s.readR8 (.reg .e)) s) 0xA3 (by decide +kernel) (aluOp_does .and _ s)
  | .and_a_h => done (u := aluOp .and (s.readR8 (.reg .h)) s) 0xA4 (by decide +kernel) (aluOp_does .and _ s)
  | .and_a_l => done (u := aluOp .and (s.readR8 (.reg .l)) s) 0xA5 (by decide +kernel) (aluOp_does .and _ s)
  | .and_a_atHL => done (u := aluOp .and (s.readR8 .atHL) s) 0xA6 (by decide +kernel) (aluOp_does .and _ s)
  | .and_a_a => done (u := aluOp .and (s.readR8 (.reg .a)) s) 0xA7 (by decide +kernel) (aluOp_does .and _ s)
  | .xor_a_b => done (u := aluOp .xor (s.readR8 (.reg .b)) s) 0xA8 (by decide +kernel) (aluOp_does .xor _ s)
  | .xor_a_c => done (u := aluOp .xor (s.readR8 (.reg .c)) s) 0xA9 (by decide +kernel) (aluOp_does .xor _ s)
  | .xor_a_d => done (u := aluOp .xor (s.readR8 (.reg .d)) s) 0xAA (by decide +kernel) (aluOp_does .xor _ s)
  | .xor_a_e => done (u := aluOp .xor (s.readR8 (.reg .e)) s) 0xAB (by decide +kernel) (aluOp_does .xor _ s)
  | .xor_a_h => done (u := aluOp .xor (s.readR8 (.reg .h)) s) 0xAC (by decide +kernel) (aluOp_does .xor _ s)
  | .xor_a_l => done (u := aluOp .xor (s.readR8 (.reg .l)) s) 0xAD (by decide +kernel) (aluOp_does .xor _ s)
  | .xor_a_atHL => done (u := aluOp .xor (s.readR8 .atHL) s) 0xAE (by decide +kernel) (aluOp_does .xor _ s)
  | .xor_a_a => done (u := aluOp .xor (s.readR8 (.reg .a)) s) 0xAF (by decide +kernel) (aluOp_does .xor _ s)
  | .or_a_b => done (u := aluOp .or (s.readR8 (.reg .b)) s) 0xB0 (by decide +kernel) (aluOp_does .or _ s)
  | .or_a_c => done (u := aluOp .or (s.readR8 (.reg .c)) s) 0xB1 (by decide +kernel) (aluOp_does .or _ s)
  | .or_a_d => done (u := aluOp .or (s.readR8 (.reg .d)) s) 0xB2 (by decide +kernel) (aluOp_does .or _ s)
  | .or_a_e => done (u := aluOp .or (s.readR8 (.reg .e)) s) 0xB3 (by decide +kernel) (aluOp_does .or _ s)
  | .or_a_h => done (u := aluOp .or (s.readR8 (.reg .h)) s) 0xB4 (by decide +kernel) (aluOp_does .or _ s)
  | .or_a_l => done (u := aluOp .or (s.readR8 (.reg .l)) s) 0xB5 (by decide +kernel) (aluOp_does .or _ s)
  | .or_a_atHL => done (u := aluOp .or (s.readR8 .atHL) s) 0xB6 (by decide +kernel) (aluOp_does .or _ s)
  | .or_a_a => done (u := aluOp .or (s.readR8 (.reg .a)) s) 0xB7 (by decide +kernel) (aluOp_does .or _ s)
  | .cp_a_b => done (u := aluOp .cp (s.readR8 (.reg .b)) s) 0xB8 (by decide +kernel) (aluOp_does .cp _ s)
  | .cp_a_c => done (u := aluOp .cp (s.readR8 (.reg .c)) s) 0xB9 (by decide +kernel) (aluOp_does .cp _ s)
  | .cp_a_d => done (u := aluOp .cp (s.readR8 (.reg .d)) s) 0xBA (by decide +kernel) (aluOp_does .cp _ s)
  | .cp_a_e => done (u := aluOp .cp (s.readR8 (.reg .e)) s) 0xBB (by decide +kernel) (aluOp_does .cp _ s)
  | .cp_a_h => done (u := aluOp .cp (s.readR8 (.reg .h)) s) 0xBC (by decide +kernel) (aluOp_does .cp _ s)
  | .cp_a_l => done (u := aluOp .cp (s.readR8 (.reg .l)) s) 0xBD (by decide +kernel) (aluOp_does .cp _ s)
  | .cp_a_atHL => done (u := aluOp .cp (s.readR8 .atHL) s) 0xBE (by decide +kernel) (aluOp_does .cp _ s)
  | .cp_a_a => done (u := aluOp .cp (s.readR8 (.reg .a)) s) 0xBF (by decide +kernel) (aluOp_does .cp _ s)
  | .ret_nz => doneCond 0xC0 (by decide +kernel) (cond_cpu_does (s.cpu.cond .nz) returnOp s rfl ⟨rfl, rfl⟩)
  | .pop_bc => done (u := popStk .bc s) 0xC1 (by decide +kernel) (does_cpu rfl rfl)
  | .jp_nz_nn nn => doneCond 0xC2 (by decide +kernel) (cond_cpu_does (s.cpu.cond .nz) (jumpTo nn) s rfl ⟨rfl, rfl⟩)
  | .jp_nn nn => done (u := jumpTo nn s) 0xC3 (by decide +kernel) (does_cpu rfl rfl)
  | .call_nz_nn nn => doneCond 0xC4 (by decide +kernel) (cond_call_does (s.cpu.cond .nz) _ s)
  | .push_bc => done (u := pushStk .bc s) 0xC5 (by decide +kernel) (pushed_does s _)
  | .add_a_n n => done (u := aluOp .add n s) 0xC6 (by decide +kernel) (aluOp_does .add _ s)
  | .rst_00 => done (u := callTo (rstTarget .i0) s) 0xC7 (by decide +kernel) (callTo_does _ s)
  | .ret_z => doneCond 0xC8 (by decide +kernel) (cond_cpu_does (s.cpu.cond .z) returnOp s rfl ⟨rfl, rfl⟩)
  | .ret => done (u := returnOp s) 0xC9 (by decide +kernel) (does_cpu rfl rfl)
  | .jp_z_nn nn => doneCond 0xCA (by decide +kernel) (cond_cpu_does (s.cpu.cond .z) (jumpTo nn) s rfl ⟨rfl, rfl⟩)
  | .call_z_nn nn => doneCond 0xCC (by decide +kernel) (cond_call_does (s.cpu.cond .z) _ s)
  | .call_nn nn => done (u := callTo nn s) 0xCD (by decide +kernel) (callTo_does _ s)
  | .adc_a_n n => done (u := aluOp .adc n s) 0xCE (by decide +kernel) (aluOp_does .adc _ s)
  | .rst_08 => done (u := callTo (rstTarget .i1) s) 0xCF (by decide +kernel) (callTo_does _ s)
  | .ret_nc => doneCond 0xD0 (by decide +kernel) (cond_cpu_does (s.cpu.cond .nc) returnOp s rfl ⟨rfl, rfl⟩)
  | .pop_de => done (u := popStk .de s) 0xD1 (by decide +kernel) (does_cpu rfl rfl)
  | .jp_nc_nn nn => doneCond 0xD2 (by decide +kernel) (cond_cpu_does (s.cpu.cond .nc) (jumpTo nn) s rfl ⟨rfl, rfl⟩)
  | .call_nc_nn nn => doneCond 0xD4 (by decide +kernel) (cond_call_does (s.cpu.cond .nc) _ s)
  | .push_de => done (u := pushStk .de s) 0xD5 (by decide +kernel) (pushed_does s _)
  | .sub_a_n n => done (u := aluOp .sub n s) 0xD6 (by decide +kernel) (aluOp_does .sub _ s)
  | .rst_10 => done (u := callTo (rstTarget .i2) s) 0xD7 (by decide +kernel) (callTo_does _ s)
  | .ret_c => doneCond 0xD8 (by decide +kernel) (cond_cpu_does (s.cpu.cond .c) returnOp s rfl ⟨rfl, rfl⟩)
  | .reti => done (u := returnFromInterrupt s) 0xD9 (by decide +kernel) (does_ime rfl rfl)
  | .jp_c_nn nn => doneCond 0xDA (by decide +kernel) (cond_cpu_does (s.cpu.cond .c) (jumpTo nn) s rfl ⟨rfl, rfl⟩)
  | .call_c_nn nn => doneCond 0xDC (by decide +kernel) (cond_call_does (s.cpu.cond .c) _ s)
  | .sbc_a_n n => done (u := aluOp .sbc n s) 0xDE (by decide +kernel) (aluOp_does .sbc _ s)
  | .rst_18 => done (u := callTo (rstTarget .i3) s) 0xDF (by decide +kernel) (callTo_does _ s)
  | .ldh_atn_a n => done (u := storeReg .a (highPage n) s) 0xE0 (by decide +kernel) (does_store s _ _)
  | .pop_hl => done (u := popStk .hl s) 0xE1 (by decide +kernel) (does_cpu rfl rfl)
  | .ld_atC_a => done (u := storeReg .a (highPage s.cpu.c) s) 0xE2 (by decide +kernel) (does_store s _ _)
  | .push_hl => done (u := pushStk .hl s) 0xE5 (by decide +kernel) (pushed_does s _)
  | .and_a_n n => done (u := aluOp .and n s) 0xE6 (by decide +kernel) (aluOp_does .and _ s)
  | .rst_20 => done (u := callTo (rstTarget .i4) s) 0xE7 (by decide +kernel) (callTo_does _ s)
  | .add_sp_e e => done (u := addSpOp e s) 0xE8 (by decide +kernel) (addSpOp_does e s)
  | .jp_atHL => done (u := jumpTo s.cpu.hl s) 0xE9 (by decide +kernel) (does_cpu rfl rfl)
  | .ld_atnn_a nn => done (u := storeReg .a nn s) 0xEA (by decide +kernel) (does_store s _ _)
  | .xor_a_n n => done (u := aluOp .xor n s) 0xEE (by decide +kernel) (aluOp_does .xor _ s)
  | .rst_28 => done (u := callTo (rstTarget .i5) s) 0xEF (by decide +kernel) (callTo_does _ s)
  | .ldh_a_atn n => done (u := loadReg .a (highPage n) s) 0xF0 (by decide +kernel) (does_cpu rfl rfl)
  | .pop_af => done (u := popStk .af s) 0xF1 (by decide +kernel) (popAf_does s)
  | .ld_a_atC => done (u := loadReg .a (highPage s.cpu.c) s) 0xF2 (by decide +kernel) (does_cpu rfl rfl)
  | .di => done (u := s.setIme false) 0xF3 (by decide +kernel) (does_ime rfl rfl)
  | .push_af => done (u := pushStk .af s) 0xF5 (by decide +kernel) (pushed_does s _)
  | .or_a_n n => done (u := aluOp .or n s) 0xF6 (by decide +kernel) (aluOp_does .or _ s)
  | .rst_30 => done (u := callTo (rstTarget .i6) s) 0xF7 (by decide +kernel) (callTo_does _ s)
  | .ld_hl_sp_e e => done (u := ldHLSpOp e s) 0xF8 (by decide +kernel) (ldHLSpOp_does e s)
  | .ld_sp_hl => done (u := s.setSp s.cpu.hl) 0xF9 (by decide +kernel) (does_cpu rfl rfl)
  | .ld_a_atnn nn => done (u := loadReg .a nn s) 0xFA (by decide +kernel) (does_cpu rfl rfl)
  | .ei => done (u := s.setIme true) 0xFB (by decide +kernel) (does_ime rfl rfl)
  | .cp_a_n n => done (u := aluOp .cp n s) 0xFE (by decide +kernel) (aluOp_does .cp _ s)
  | .rst_38 => done (u := callTo (rstTarget .i7) s) 0xFF (by decide +kernel) (callTo_does _ s)
  | .rlc_b => done (u := rotOpr .rlc (.reg .b) s) 0x100 (by decide +kernel) (rotOpr_does .rlc (.reg .b) s)
  | .rlc_c => done (u := rotOpr .rlc (.reg .c) s) 0x101 (by decide +kernel) (rotOpr_does .rlc (.reg .c) s)
  | .rlc_d => done (u := rotOpr .rlc (.reg .d) s) 0x102 (by decide +kernel) (rotOpr_does .rlc (.reg .d) s)
  | .rlc_e => done (u := rotOpr .rlc (.reg .e) s) 0x103 (by decide +kernel) (rotOpr_does .rlc (.reg .e) s)
  | .rlc_h => done (u := rotOpr .rlc (.reg .h) s) 0x104 (by decide +kernel) (rotOpr_does .rlc (.reg .h) s)
  | .rlc_l => done (u := rotOpr .rlc (.reg .l) s) 0x105 (by decide +kernel) (rotOpr_does .rlc (.reg .l) s)
  | .rlc_atHL => done (u := rotOpr .rlc .atHL s) 0x106 (by decide +kernel) (rotOpr_does .rlc .atHL s)
  | .rlc_a => done (u := rotOpr .rlc (.reg .a) s) 0x107 (by decide +kernel) (rotOpr_does .rlc (.reg .a) s)
  | .rrc_b => done (u := rotOpr .rrc (.reg .b) s) 0x108 (by decide +kernel) (rotOpr_does .rrc (.reg .b) s)
  | .rrc_c => done (u := rotOpr .rrc (.reg .c) s) 0x109 (by decide +kernel) (rotOpr_does .rrc (.reg .c) s)
  | .rrc_d => done (u := rotOpr .rrc (.reg .d) s) 0x10A (by decide +kernel) (rotOpr_does .rrc (.reg .d) s)
  | .rrc_e => done (u := rotOpr .rrc (.reg .e) s) 0x10B (by decide +kernel) (rotOpr_does .rrc (.reg .e) s)
  | .rrc_h => done (u := rotOpr .rrc (.reg .h) s) 0x10C (by decide +kernel) (rotOpr_does .rrc (.reg .h) s)
  | .rrc_l => done (u := rotOpr .rrc (.reg .l) s) 0x10D (by decide +kernel) (rotOpr_does .rrc (.reg .l) s)
  | .rrc_atHL => done (u := rotOpr .rrc .atHL s) 0x10E (by decide +kernel) (rotOpr_does .rrc .atHL s)
  | .rrc_a => done (u := rotOpr .rrc (.reg .a) s) 0x10F (by decide +kernel) (rotOpr_does .rrc (.reg .a) s)
  | .rl_b => done (u := rotOpr .rl (.reg .b) s) 0x110 (by decide +kernel) (rotOpr_does .rl (.reg .b) s)
  | .rl_c => done (u := rotOpr .rl (.reg .c) s) 0x111 (by decide +kernel) (rotOpr_does .rl (.reg .c) s)
  | .rl_d => done (u := rotOpr .rl (.reg .d) s) 0x112 (by decide +kernel) (rotOpr_does .rl (.reg .d) s)
  | .rl_e => done (u := rotOpr .rl (.reg .e) s) 0x113 (by decide +kernel) (rotOpr_does .rl (.reg .e) s)
  | .rl_h => done (u := rotOpr .rl (.reg .h) s) 0x114 (by decide +kernel) (rotOpr_does .rl (.reg .h) s)
  | .rl_l => done (u := rotOpr .rl (.reg .l) s) 0x115 (by decide +kernel) (rotOpr_does .rl (.reg .l) s)
  | .rl_atHL => done (u := rotOpr .rl .atHL s) 0x116 (by decide +kernel) (rotOpr_does .rl .atHL s)
  | .rl_a => done (u := rotOpr .rl (.reg .a) s) 0x117 (by decide +kernel) (rotOpr_does .rl (.reg .a) s)
  | .rr_b => done (u := rotOpr .rr (.reg .b) s) 0x118 (by decide +kernel) (rotOpr_does .rr (.reg .b) s)
  | .rr_c => done (u := rotOpr .rr (.reg .c) s) 0x119 (by decide +kernel) (rotOpr_does .rr (.reg .c) s)
  | .rr_d => done (u := rotOpr .rr (.reg .d) s) 0x11A (by decide +kernel) (rotOpr_does .rr (.reg .d) s)
  | .rr_e => done (u := rotOpr .rr (.reg .e) s) 0x11B (by decide +kernel) (rotOpr_does .rr (.reg .e) s)
  | .rr_h => done (u := rotOpr .rr (.reg .h) s) 0x11C (by decide +kernel) (rotOpr_does .rr (.reg .h) s)
  | .rr_l => done (u := rotOpr .rr (.reg .l) s) 0x11D (by decide +kernel) (rotOpr_does .rr (.reg .l) s)
  | .rr_atHL => done (u := rotOpr .rr .atHL s) 0x11E (by decide +kernel) (rotOpr_does .rr .atHL s)
  | .rr_a => done (u := rotOpr .rr (.reg .a) s) 0x11F (by decide +kernel) (rotOpr_does .rr (.reg .a) s)
  | .sla_b => done (u := rotOpr .sla (.reg .b) s) 0x120 (by decide +kernel) (rotOpr_does .sla (.reg .b) s)
  | .sla_c => done (u := rotOpr .sla (.reg .c) s) 0x121 (by decide +kernel) (rotOpr_does .sla (.reg .c) s)
  | .sla_d => done (u := rotOpr .sla (.reg .d) s) 0x122 (by decide +kernel) (rotOpr_does .sla (.reg .d) s)
  | .sla_e => done (u := rotOpr .sla (.reg .e) s) 0x123 (by decide +kernel) (rotOpr_does .sla (.reg .e) s)
  | .sla_h => done (u := rotOpr .sla (.reg .h) s) 0x124 (by decide +kernel) (rotOpr_does .sla (.reg .h) s)
  | .sla_l => done (u := rotOpr .sla (.reg .l) s) 0x125 (by decide +kernel) (rotOpr_does .sla (.reg .l) s)
  | .sla_atHL => done (u := rotOpr .sla .atHL s) 0x126 (by decide +kernel) (rotOpr_does .sla .atHL s)
  | .sla_a => done (u := rotOpr .sla (.reg .a) s) 0x127 (by decide +kernel) (rotOpr_does .sla (.reg .a) s)
  | .sra_b => done (u := rotOpr .sra (.reg .b) s) 0x128 (by decide +kernel) (rotOpr_does .sra (.reg .b) s)
  | .sra_c => done (u := rotOpr .sra (.reg .c) s) 0x129 (by decide +kernel) (rotOpr_does .sra (.reg .c) s)
  | .sra_d => done (u := rotOpr .sra (.reg .d) s) 0x12A (by decide +kernel) (rotOpr_does .sra (.reg .d) s)
  | .sra_e => done (u := rotOpr .sra (.reg .e) s) 0x12B (by decide +kernel) (rotOpr_does .sra (.reg .e) s)
  | .sra_h => done (u := rotOpr .sra (.reg .h) s) 0x12C (by decide +kernel) (rotOpr_does .sra (.reg .h) s)
  | .sra_l => done (u := rotOpr .sra (.reg .l) s) 0x12D (by decide +kernel) (rotOpr_does .sra (.reg .l) s)
  | .sra_atHL => done (u := rotOpr .sra .atHL s) 0x12E (by decide +kernel) (rotOpr_does .sra .atHL s)
  | .sra_a => done (u := rotOpr .sra (.reg .a) s) 0x12F (by decide +kernel) (rotOpr_does .sra (.reg .a) s)
  | .swap_b => done (u := rotOpr .swap (.reg .b) s) 0x130 (by decide +kernel) (rotOpr_does .swap (.reg .b) s)
  | .swap_c => done (u := rotOpr .swap (.reg .c) s) 0x131 (by decide +kernel) (rotOpr_does .swap (.reg .c) s)
  | .swap_d => done (u := rotOpr .swap (.reg .d) s) 0x132 (by decide +kernel) (rotOpr_does .swap (.reg .d) s)
  | .swap_e => done (u := rotOpr .swap (.reg .e) s) 0x133 (by decide +kernel) (rotOpr_does .swap (.reg .e) s)
  | .swap_h => done (u := rotOpr .swap (.reg .h) s) 0x134 (by decide +kernel) (rotOpr_does .swap (.reg .h) s)
  | .swap_l => done (u := rotOpr .swap (.reg .l) s) 0x135 (by decide +kernel) (rotOpr_does .swap (.reg .l) s)
  | .swap_atHL => done (u := rotOpr .swap .atHL s) 0x136 (by decide +kernel) (rotOpr_does .swap .atHL s)
  | .swap_a => done (u := rotOpr .swap (.reg .a) s) 0x137 (by decide +kernel) (rotOpr_does .swap (.reg .a) s)
  | .srl_b => done (u := rotOpr .srl (.reg .b) s) 0x138 (by decide +kernel) (rotOpr_does .srl (.reg .b) s)
  | .srl_c => done (u := rotOpr .srl (.reg .c) s) 0x139 (by decide +kernel) (rotOpr_does .srl (.reg .c) s)
  | .srl_d => done (u := rotOpr .srl (.reg .d) s) 0x13A (by decide +kernel) (rotOpr_does .srl (.reg .d) s)
  | .srl_e => done (u := rotOpr .srl (.reg .e) s) 0x13B (by decide +kernel) (rotOpr_does .srl (.reg .e) s)
  | .srl_h => done (u := rotOpr .srl (.reg .h) s) 0x13C (by decide +kernel) (rotOpr_does .srl (.reg .h) s)
  | .srl_l => done (u := rotOpr .srl (.reg .l) s) 0x13D (by decide +kernel) (rotOpr_does .srl (.reg .l) s)
  | .srl_atHL => done (u := rotOpr .srl .atHL s) 0x13E (by decide +kernel) (rotOpr_does .srl .atHL s)
  | .srl_a => done (u := rotOpr .srl (.reg .a) s) 0x13F (by decide +kernel) (rotOpr_does .srl (.reg .a) s)
  | .bit_0_b => done (u := bitOpr .i0 (.reg .b) s) 0x140 (by decide +kernel) (bitOpr_does .i0 (.reg .b) s)
  | .bit_0_c => done (u := bitOpr .i0 (.reg .c) s) 0x141 (by decide +kernel) (bitOpr_does .i0 (.reg .c) s)
  | .bit_0_d => done (u := bitOpr .i0 (.reg .d) s) 0x142 (by decide +kernel) (bitOpr_does .i0 (.reg .d) s)
  | .bit_0_e => done (u := bitOpr .i0 (.reg .e) s) 0x143 (by decide +kernel) (bitOpr_does .i0 (.reg .e) s)
  | .bit_0_h => done (u := bitOpr .i0 (.reg .h) s) 0x144 (by decide +kernel) (bitOpr_does .i0 (.reg .h) s)
  | .bit_0_l => done (u := bitOpr .i0 (.reg .l) s) 0x145 (by decide +kernel) (bitOpr_does .i0 (.reg .l) s)
  | .bit_0_atHL => done (u := bitOpr .i0 .atHL s) 0x146 (by decide +kernel) (bitOpr_does .i0 .atHL s)
  | .bit_0_a => done (u := bitOpr .i0 (.reg .a) s) 0x147 (by decide +kernel) (bitOpr_does .i0 (.reg .a) s)
  | .bit_1_b => done (u := bitOpr .i1 (.reg .b) s) 0x148 (by decide +kernel) (bitOpr_does .i1 (.reg .b) s)
  | .bit_1_c => done (u := bitOpr .i1 (.reg .c) s) 0x149 (by decide +kernel) (bitOpr_does .i1 (.reg .c) s)
  | .bit_1_d => done (u := bitOpr .i1 (.reg .d) s) 0x14A (by decide +kernel) (bitOpr_does .i1 (.reg .d) s)
  | .bit_1_e => done (u := bitOpr .i1 (.reg .e) s) 0x14B (by decide +kernel) (bitOpr_does .i1 (.reg .e) s)
  | .bit_1_h => done (u := bitOpr .i1 (.reg .h) s) 0x14C (by decide +kernel) (bitOpr_does .i1 (.reg .h) s)
  | .bit_1_l => done (u := bitOpr .i1 (.reg .l) s) 0x14D (by decide +kernel) (bitOpr_does .i1 (.reg .l) s)
  | .bit_1_atHL => done (u := bitOpr .i1 .atHL s) 0x14E (by decide +kernel) (bitOpr_does .i1 .atHL s)
  | .bit_1_a => done (u := bitOpr .i1 (.reg .a) s) 0x14F (by decide +kernel) (bitOpr_does .i1 (.reg .a) s)
  | .bit_2_b => done (u := bitOpr .i2 (.reg .b) s) 0x150 (by decide +kernel) (bitOpr_does .i2 (.reg .b) s)
  | .bit_2_c => done (u := bitOpr .i2 (.reg .c) s) 0x151 (by decide +kernel) (bitOpr_does .i2 (.reg .c) s)
  | .bit_2_d => done (u := bitOpr .i2 (.reg .d) s) 0x152 (by decide +kernel) (bitOpr_does .i2 (.reg .d) s)
  | .bit_2_e => done (u := bitOpr .i2 (.reg .e) s) 0x153 (by decide +kernel) (bitOpr_does .i2 (.reg .e) s)
  | .bit_2_h => done (u := bitOpr .i2 (.reg .h) s) 0x154 (by decide +kernel) (bitOpr_does .i2 (.reg .h) s)
  | .bit_2_l => done (u := bitOpr .i2 (.reg .l) s) 0x155 (by decide +kernel) (bitOpr_does .i2 (.reg .l) s)
  | .bit_2_atHL => done (u := bitOpr .i2 .atHL s) 0x156 (by decide +kernel) (bitOpr_does .i2 .atHL s)
  | .bit_2_a => done (u := bitOpr .i2 (.reg .a) s) 0x157 (by decide +kernel) (bitOpr_does .i2 (.reg .a) s)
  | .bit_3_b => done (u := bitOpr .i3 (.reg .b) s) 0x158 (by decide +kernel) (bitOpr_does .i3 (.reg .b) s)
  | .bit_3_c => done (u := bitOpr .i3 (.reg .c) s) 0x159 (by decide +kernel) (bitOpr_does .i3 (.reg .c) s)
  | .bit_3_d => done (u := bitOpr .i3 (.reg .d) s) 0x15A (by decide +kernel) (bitOpr_does .i3 (.reg .d) s)
  | .bit_3_e => done (u := bitOpr .i3 (.reg .e) s) 0x15B (by decide +kernel) (bitOpr_does .i3 (.reg .e) s)
  | .bit_3_h => done (u := bitOpr .i3 (.reg .h) s) 0x15C (by decide +kernel) (bitOpr_does .i3 (.reg .h) s)
  | .bit_3_l => done (u := bitOpr .i3 (.reg .l) s) 0x15D (by decide +kernel) (bitOpr_does .i3 (.reg .l) s)
  | .bit_3_atHL => done (u := bitOpr .i3 .atHL s) 0x15E (by decide +kernel) (bitOpr_does .i3 .atHL s)
  | .bit_3_a => done (u := bitOpr .i3 (.reg .a) s) 0x15F (by decide +kernel) (bitOpr_does .i3 (.reg .a) s)
  | .bit_4_b => done (u := bitOpr .i4 (.reg .b) s) 0x160 (by decide +kernel) (bitOpr_does .i4 (.reg .b) s)
  | .bit_4_c => done (u := bitOpr .i4 (.reg .c) s) 0x161 (by decide +kernel) (bitOpr_does .i4 (.reg .c) s)
  | .bit_4_d => done (u := bitOpr .i4 (.reg .d) s) 0x162 (by decide +kernel) (bitOpr_does .i4 (.reg .d) s)
  | .bit_4_e => done (u := bitOpr .i4 (.reg .e) s) 0x163 (by decide +kernel) (bitOpr_does .i4 (.reg .e) s)
  | .bit_4_h => done (u := bitOpr .i4 (.reg .h) s) 0x164 (by decide +kernel) (bitOpr_does .i4 (.reg .h) s)
  | .bit_4_l => done (u := bitOpr .i4 (.reg .l) s) 0x165 (by decide +kernel) (bitOpr_does .i4 (.reg .l) s)
  | .bit_4_atHL => done (u := bitOpr .i4 .atHL s) 0x166 (by decide +kernel) (bitOpr_does .i4 .atHL s)
  | .bit_4_a => done (u := bitOpr .i4 (.reg .a) s) 0x167 (by decide +kernel) (bitOpr_does .i4 (.reg .a) s)
  | .bit_5_b => done (u := bitOpr .i5 (.reg .b) s) 0x168 (by decide +kernel) (bitOpr_does .i5 (.reg .b) s)
  | .bit_5_c => done (u := bitOpr .i5 (.reg .c) s) 0x169 (by decide +kernel) (bitOpr_does .i5 (.reg .c) s)
  | .bit_5_d => done (u := bitOpr .i5 (.reg .d) s) 0x16A (by decide +kernel) (bitOpr_does .i5 (.reg .d) s)
  | .bit_5_e => done (u := bitOpr .i5 (.reg .e) s) 0x16B (by decide +kernel) (bitOpr_does .i5 (.reg .e) s)
  | .bit_5_h => done (u := bitOpr .i5 (.reg .h) s) 0x16C (by decide +kernel) (bitOpr_does .i5 (.reg .h) s)
  | .bit_5_l => done (u := bitOpr .i5 (.reg .l) s) 0x16D (by decide +kernel) (bitOpr_does .i5 (.reg .l) s)
  | .bit_5_atHL => done (u := bitOpr .i5 .atHL s) 0x16E (by decide +kernel) (bitOpr_does .i5 .atHL s)
  | .bit_5_a => done (u := bitOpr .i5 (.reg .a) s) 0x16F (by decide +kernel) (bitOpr_does .i5 (.reg .a) s)
  | .bit_6_b => done (u := bitOpr .i6 (.reg .b) s) 0x170 (by decide +kernel) (bitOpr_does .i6 (.reg .b) s)
  | .bit_6_c => done (u := bitOpr .i6 (.reg .c) s) 0x171 (by decide +kernel) (bitOpr_does .i6 (.reg .c) s)
  | .bit_6_d => done (u := bitOpr .i6 (.reg .d) s) 0x172 (by decide +kernel) (bitOpr_does .i6 (.reg .d) s)
  | .bit_6_e => done (u := bitOpr .i6 (.reg .e) s) 0x173 (by decide +kernel) (bitOpr_does .i6 (.reg .e) s)
  | .bit_6_h => done (u := bitOpr .i6 (.reg .h) s) 0x174 (by decide +kernel) (bitOpr_does .i6 (.reg .h) s)
  | .bit_6_l => done (u := bitOpr .i6 (.reg .l) s) 0x175 (by decide +kernel) (bitOpr_does .i6 (.reg .l) s)
  | .bit_6_atHL => done (u := bitOpr .i6 .atHL s) 0x176 (by decide +kernel) (bitOpr_does .i6 .atHL s)
  | .bit_6_a => done (u := bitOpr .i6 (.reg .a) s) 0x177 (by decide +kernel) (bitOpr_does .i6 (.reg .a) s)
  | .bit_7_b => done (u := bitOpr .i7 (.reg .b) s) 0x178 (by decide +kernel) (bitOpr_does .i7 (.reg .b) s)
  | .bit_7_c => done (u := bitOpr .i7 (.reg .c) s) 0x179 (by decide +kernel) (bitOpr_does .i7 (.reg .c) s)
  | .bit_7_d => done (u := bitOpr .i7 (.reg .d) s) 0x17A (by decide +kernel) (bitOpr_does .i7 (.reg .d) s)
  | .bit_7_e => done (u := bitOpr .i7 (.reg .e) s) 0x17B (by decide +kernel) (bitOpr_does .i7 (.reg .e) s)
  | .bit_7_h => done (u := bitOpr .i7 (.reg .h) s) 0x17C (by decide +kernel) (bitOpr_does .i7 (.reg .h) s)
  | .bit_7_l => done (u := bitOpr .i7 (.reg .l) s) 0x17D (by decide +kernel) (bitOpr_does .i7 (.reg .l) s)
  | .bit_7_atHL => done (u := bitOpr .i7 .atHL s) 0x17E (by decide +kernel) (bitOpr_does .i7 .atHL s)
  | .bit_7_a => done (u := bitOpr .i7 (.reg .a) s) 0x17F (by decide +kernel) (bitOpr_does .i7 (.reg .a) s)
  | .res_0_b => done (u := resOpr .i0 (.reg .b) s) 0x180 (by decide +kernel) (resOpr_does .i0 (.reg .b) s)
  | .res_0_c => done (u := resOpr .i0 (.reg .c) s) 0x181 (by decide +kernel) (resOpr_does .i0 (.reg .c) s)
  | .res_0_d => done (u := resOpr .i0 (.reg .d) s) 0x182 (by decide +kernel) (resOpr_does .i0 (.reg .d) s)
  | .res_0_e => done (u := resOpr .i0 (.reg .e) s) 0x183 (by decide +kernel) (resOpr_does .i0 (.reg .e) s)
  | .res_0_h => done (u := resOpr .i0 (.reg .h) s) 0x184 (by decide +kernel) (resOpr_does .i0 (.reg .h) s)
  | .res_0_l => done (u := resOpr .i0 (.reg .l) s) 0x185 (by decide +kernel) (resOpr_does .i0 (.reg .l) s)
  | .res_0_atHL => done (u := resOpr .i0 .atHL s) 0x186 (by decide +kernel) (resOpr_does .i0 .atHL s)
  | .res_0_a => done (u := resOpr .i0 (.reg .a) s) 0x187 (by decide +kernel) (resOpr_does .i0 (.reg .a) s)
  | .res_1_b => done (u := resOpr .i1 (.reg .b) s) 0x188 (by decide +kernel) (resOpr_does .i1 (.reg .b) s)
  | .res_1_c => done (u := resOpr .i1 (.reg .c) s) 0x189 (by decide +kernel) (resOpr_does .i1 (.reg .c) s)
  | .res_1_d => done (u := resOpr .i1 (.reg .d) s) 0x18A (by decide +kernel) (resOpr_does .i1 (.reg .d) s)
  | .res_1_e => done (u := resOpr .i1 (.reg .e) s) 0x18B (by decide +kernel) (resOpr_does .i1 (.reg .e) s)
  | .res_1_h => done (u := resOpr .i1 (.reg .h) s) 0x18C (by decide +kernel) (resOpr_does .i1 (.reg .h) s)
  | .res_1_l => done (u := resOpr .i1 (.reg .l) s) 0x18D (by decide +kernel) (resOpr_does .i1 (.reg .l) s)
  | .res_1_atHL => done (u := resOpr .i1 .atHL s) 0x18E (by decide +kernel) (resOpr_does .i1 .atHL s)
  | .res_1_a => done (u := resOpr .i1 (.reg .a) s) 0x18F (by decide +kernel) (resOpr_does .i1 (.reg .a) s)
  | .res_2_b => done (u := resOpr .i2 (.reg .b) s) 0x190 (by decide +kernel) (resOpr_does .i2 (.reg .b) s)
  | .res_2_c => done (u := resOpr .i2 (.reg .c) s) 0x191 (by decide +kernel) (resOpr_does .i2 (.reg .c) s)
  | .res_2_d => done (u := resOpr .i2 (.reg .d) s) 0x192 (by decide +kernel) (resOpr_does .i2 (.reg .d) s)
  | .res_2_e => done (u := resOpr .i2 (.reg .e) s) 0x193 (by decide +kernel) (resOpr_does .i2 (.reg .e) s)
  | .res_2_h => done (u := resOpr .i2 (.reg .h) s) 0x194 (by decide +kernel) (resOpr_does .i2 (.reg .h) s)
  | .res_2_l => done (u := resOpr .i2 (.reg .l) s) 0x195 (by decide +kernel) (resOpr_does .i2 (.reg .l) s)
  | .res_2_atHL => done (u := resOpr .i2 .atHL s) 0x196 (by decide +kernel) (resOpr_does .i2 .atHL s)
  | .res_2_a => done (u := resOpr .i2 (.reg .a) s) 0x197 (by decide +kernel) (resOpr_does .i2 (.reg .a) s)
  | .res_3_b => done (u := resOpr .i3 (.reg .b) s) 0x198 (by decide +kernel) (resOpr_does .i3 (.reg .b) s)
  | .res_3_c => done (u := resOpr .i3 (.reg .c) s) 0x199 (by decide +kernel) (resOpr_does .i3 (.reg .c) s)
  | .res_3_d => done (u := resOpr .i3 (.reg .d) s) 0x19A (by decide +kernel) (resOpr_does .i3 (.reg .d) s)
  | .res_3_e => done (u := resOpr .i3 (.reg .e) s) 0x19B (by decide +kernel) (resOpr_does .i3 (.reg .e) s)
  | .res_3_h => done (u := resOpr .i3 (.reg .h) s) 0x19C (by decide +kernel) (resOpr_does .i3 (.reg .h) s)
  | .res_3_l => done (u := resOpr .i3 (.reg .l) s) 0x19D (by decide +kernel) (resOpr_does .i3 (.reg .l) s)
  | .res_3_atHL => done (u := resOpr .i3 .atHL s) 0x19E (by decide +kernel) (resOpr_does .i3 .atHL s)
  | .res_3_a => done (u := resOpr .i3 (.reg .a) s) 0x19F (by decide +kernel) (resOpr_does .i3 (.reg .a) s)
  | .res_4_b => done (u := resOpr .i4 (.reg .b) s) 0x1A0 (by decide +kernel) (resOpr_does .i4 (.reg .b) s)
  | .res_4_c => done (u := resOpr .i4 (.reg .c) s) 0x1A1 (by decide +kernel) (resOpr_does .i4 (.reg .c) s)
  | .res_4_d => done (u := resOpr .i4 (.reg .d) s) 0x1A2 (by decide +kernel) (resOpr_does .i4 (.reg .d) s)
  | .res_4_e => done (u := resOpr .i4 (.reg .e) s) 0x1A3 (by decide +kernel) (resOpr_does .i4 (.reg .e) s)
  | .res_4_h => done (u := resOpr .i4 (.reg .h) s) 0x1A4 (by decide +kernel) (resOpr_does .i4 (.reg .h) s)
  | .res_4_l => done (u := resOpr .i4 (.reg .l) s) 0x1A5 (by decide +kernel) (resOpr_does .i4 (.reg .l) s)
  | .res_4_atHL => done (u := resOpr .i4 .atHL s) 0x1A6 (by decide +kernel) (resOpr_does .i4 .atHL s)
  | .res_4_a => done (u := resOpr .i4 (.reg .a) s) 0x1A7 (by decide +kernel) (resOpr_does .i4 (.reg .a) s)
  | .res_5_b => done (u := resOpr .i5 (.reg .b) s) 0x1A8 (by decide +kernel) (resOpr_does .i5 (.reg .b) s)
  | .res_5_c => done (u := resOpr .i5 (.reg .c) s) 0x1A9 (by decide +kernel) (resOpr_does .i5 (.reg .c) s)
  | .res_5_d => done (u := resOpr .i5 (.reg .d) s) 0x1AA (by decide +kernel) (resOpr_does .i5 (.reg .d) s)
  | .res_5_e => done (u := resOpr .i5 (.reg .e) s) 0x1AB (by decide +kernel) (resOpr_does .i5 (.reg .e) s)
  | .res_5_h => done (u := resOpr .i5 (.reg .h) s) 0x1AC (by decide +kernel) (resOpr_does .i5 (.reg .h) s)
  | .res_5_l => done (u := resOpr .i5 (.reg .l) s) 0x1AD (by decide +kernel) (resOpr_does .i5 (.reg .l) s)
  | .res_5_atHL => done (u := resOpr .i5 .atHL s) 0x1AE (by decide +kernel) (resOpr_does .i5 .atHL s)
  | .res_5_a => done (u := resOpr .i5 (.reg .a) s) 0x1AF (by decide +kernel) (resOpr_does .i5 (.reg .a) s)
  | .res_6_b => done (u := resOpr .i6 (.reg .b) s) 0x1B0 (by decide +kernel) (resOpr_does .i6 (.reg .b) s)
  | .res_6_c => done (u := resOpr .i6 (.reg .c) s) 0x1B1 (by decide +kernel) (resOpr_does .i6 (.reg .c) s)
  | .res_6_d => done (u := resOpr .i6 (.reg .d) s) 0x1B2 (by decide +kernel) (resOpr_does .i6 (.reg .d) s)
  | .res_6_e => done (u := resOpr .i6 (.reg .e) s) 0x1B3 (by decide +kernel) (resOpr_does .i6 (.reg .e) s)
  | .res_6_h => done (u := resOpr .i6 (.reg .h) s) 0x1B4 (by decide +kernel) (resOpr_does .i6 (.reg .h) s)
  | .res_6_l => done (u := resOpr .i6 (.reg .l) s) 0x1B5 (by decide +kernel) (resOpr_does .i6 (.reg .l) s)
  | .res_6_atHL => done (u := resOpr .i6 .atHL s) 0x1B6 (by decide +kernel) (resOpr_does .i6 .atHL s)
  | .res_6_a => done (u := resOpr .i6 (.reg .a) s) 0x1B7 (by decide +kernel) (resOpr_does .i6 (.reg .a) s)
  | .res_7_b => done (u := resOpr .i7 (.reg .b) s) 0x1B8 (by decide +kernel) (resOpr_does .i7 (.reg .b) s)
  | .res_7_c => done (u := resOpr .i7 (.reg .c) s) 0x1B9 (by decide +kernel) (resOpr_does .i7 (.reg .c) s)
  | .res_7_d => done (u := resOpr .i7 (.reg .d) s) 0x1BA (by decide +kernel) (resOpr_does .i7 (.reg .d) s)
  | .res_7_e => done (u := resOpr .i7 (.reg .e) s) 0x1BB (by decide +kernel) (resOpr_does .i7 (.reg .e) s)
  | .res_7_h => done (u := resOpr .i7 (.reg .h) s) 0x1BC (by decide +kernel) (resOpr_does .i7 (.reg .h) s)
  | .res_7_l => done (u := resOpr .i7 (.reg .l) s) 0x1BD (by decide +kernel) (resOpr_does .i7 (.reg .l) s)
  | .res_7_atHL => done (u := resOpr .i7 .atHL s) 0x1BE (by decide +kernel) (resOpr_does .i7 .atHL s)
  | .res_7_a => done (u := resOpr .i7 (.reg .a) s) 0x1BF (by decide +kernel) (resOpr_does .i7 (.reg .a) s)
  | .set_0_b => done (u := setOpr .i0 (.reg .b) s) 0x1C0 (by decide +kernel) (setOpr_does .i0 (.reg .b) s)
  | .set_0_c => done (u := setOpr .i0 (.reg .c) s) 0x1C1 (by decide +kernel) (setOpr_does .i0 (.reg .c) s)
  | .set_0_d => done (u := setOpr .i0 (.reg .d) s) 0x1C2 (by decide +kernel) (setOpr_does .i0 (.reg .d) s)
  | .set_0_e => done (u := setOpr .i0 (.reg .e) s) 0x1C3 (by decide +kernel) (setOpr_does .i0 (.reg .e) s)
  | .set_0_h => done (u := setOpr .i0 (.reg .h) s) 0x1C4 (by decide +kernel) (setOpr_does .i0 (.reg .h) s)
  | .set_0_l => done (u := setOpr .i0 (.reg .l) s) 0x1C5 (by decide +kernel) (setOpr_does .i0 (.reg .l) s)
  | .set_0_atHL => done (u := setOpr .i0 .atHL s) 0x1C6 (by decide +kernel) (setOpr_does .i0 .atHL s)
  | .set_0_a => done (u := setOpr .i0 (.reg .a) s) 0x1C7 (by decide +kernel) (setOpr_does .i0 (.reg .a) s)
  | .set_1_b => done (u := setOpr .i1 (.reg .b) s) 0x1C8 (by decide +kernel) (setOpr_does .i1 (.reg .b) s)
  | .set_1_c => done (u := setOpr .i1 (.reg .c) s) 0x1C9 (by decide +kernel) (setOpr_does .i1 (.reg .c) s)
  | .set_1_d => done (u := setOpr .i1 (.reg .d) s) 0x1CA (by decide +kernel) (setOpr_does .i1 (.reg .d) s)
  | .set_1_e => done (u := setOpr .i1 (.reg .e) s) 0x1CB (by decide +kernel) (setOpr_does .i1 (.reg .e) s)
  | .set_1_h => done (u := setOpr .i1 (.reg .h) s) 0x1CC (by decide +kernel) (setOpr_does .i1 (.reg .h) s)
  | .set_1_l => done (u := setOpr .i1 (.reg .l) s) 0x1CD (by decide +kernel) (setOpr_does .i1 (.reg .l) s)
  | .set_1_atHL => done (u := setOpr .i1 .atHL s) 0x1CE (by decide +kernel) (setOpr_does .i1 .atHL s)
  | .set_1_a => done (u := setOpr .i1 (.reg .a) s) 0x1CF (by decide +kernel) (setOpr_does .i1 (.reg .a) s)
  | .set_2_b => done (u := setOpr .i2 (.reg .b) s) 0x1D0 (by decide +kernel) (setOpr_does .i2 (.reg .b) s)
  | .set_2_c => done (u := setOpr .i2 (.reg .c) s) 0x1D1 (by decide +kernel) (setOpr_does .i2 (.reg .c) s)
  | .set_2_d => done (u := setOpr .i2 (.reg .d) s) 0x1D2 (by decide +kernel) (setOpr_does .i2 (.reg .d) s)
  | .set_2_e => done (u := setOpr .i2 (.reg .e) s) 0x1D3 (by decide +kernel) (setOpr_does .i2 (.reg .e) s)
  | .set_2_h => done (u := setOpr .i2 (.reg .h) s) 0x1D4 (by decide +kernel) (setOpr_does .i2 (.reg .h) s)
  | .set_2_l => done (u := setOpr .i2 (.reg .l) s) 0x1D5 (by decide +kernel) (setOpr_does .i2 (.reg .l) s)
  | .set_2_atHL => done (u := setOpr .i2 .atHL s) 0x1D6 (by decide +kernel) (setOpr_does .i2 .atHL s)
  | .set_2_a => done (u := setOpr .i2 (.reg .a) s) 0x1D7 (by decide +kernel) (setOpr_does .i2 (.reg .a) s)
  | .set_3_b => done (u := setOpr .i3 (.reg .b) s) 0x1D8 (by decide +kernel) (setOpr_does .i3 (.reg .b) s)
  | .set_3_c => done (u := setOpr .i3 (.reg .c) s) 0x1D9 (by decide +kernel) (setOpr_does .i3 (.reg .c) s)
  | .set_3_d => done (u := setOpr .i3 (.reg .d) s) 0x1DA (by decide +kernel) (setOpr_does .i3 (.reg .d) s)
  | .set_3_e => done (u := setOpr .i3 (.reg .e) s) 0x1DB (by decide +kernel) (setOpr_does .i3 (.reg .e) s)
  | .set_3_h => done (u := setOpr .i3 (.reg .h) s) 0x1DC (by decide +kernel) (setOpr_does .i3 (.reg .h) s)
  | .set_3_l => done (u := setOpr .i3 (.reg .l) s) 0x1DD (by decide +kernel) (setOpr_does .i3 (.reg .l) s)
  | .set_3_atHL => done (u := setOpr .i3 .atHL s) 0x1DE (by decide +kernel) (setOpr_does .i3 .atHL s)
  | .set_3_a => done (u := setOpr .i3 (.reg .a) s) 0x1DF (by decide +kernel) (setOpr_does .i3 (.reg .a) s)
  | .set_4_b => done (u := setOpr .i4 (.reg .b) s) 0x1E0 (by decide +kernel) (setOpr_does .i4 (.reg .b) s)
  | .set_4_c => done (u := setOpr .i4 (.reg .c) s) 0x1E1 (by decide +kernel) (setOpr_does .i4 (.reg .c) s)
  | .set_4_d => done (u := setOpr .i4 (.reg .d) s) 0x1E2 (by decide +kernel) (setOpr_does .i4 (.reg .d) s)
  | .set_4_e => done (u := setOpr .i4 (.reg .e) s) 0x1E3 (by decide +kernel) (setOpr_does .i4 (.reg .e) s)
  | .set_4_h => done (u := setOpr .i4 (.reg .h) s) 0x1E4 (by decide +kernel) (setOpr_does .i4 (.reg .h) s)
  | .set_4_l => done (u := setOpr .i4 (.reg .l) s) 0x1E5 (by decide +kernel) (setOpr_does .i4 (.reg .l) s)
  | .set_4_atHL => done (u := setOpr .i4 .atHL s) 0x1E6 (by decide +kernel) (setOpr_does .i4 .atHL s)
  | .set_4_a => done (u := setOpr .i4 (.reg .a) s) 0x1E7 (by decide +kernel) (setOpr_does .i4 (.reg .a) s)
  | .set_5_b => done (u := setOpr .i5 (.reg .b) s) 0x1E8 (by decide +kernel) (setOpr_does .i5 (.reg .b) s)
  | .set_5_c => done (u := setOpr .i5 (.reg .c) s) 0x1E9 (by decide +kernel) (setOpr_does .i5 (.reg .c) s)
  | .set_5_d => done (u := setOpr .i5 (.reg .d) s) 0x1EA (by decide +kernel) (setOpr_does .i5 (.reg .d) s)
  | .set_5_e => done (u := setOpr .i5 (.reg .e) s) 0x1EB (by decide +kernel) (setOpr_does .i5 (.reg .e) s)
  | .set_5_h => done (u := setOpr .i5 (.reg .h) s) 0x1EC (by decide +kernel) (setOpr_does .i5 (.reg .h) s)
  | .set_5_l => done (u := setOpr .i5 (.reg .l) s) 0x1ED (by decide +kernel) (setOpr_does .i5 (.reg .l) s)
  | .set_5_atHL => done (u := setOpr .i5 .atHL s) 0x1EE (by decide +kernel) (setOpr_does .i5 .atHL s)
  | .set_5_a => done (u := setOpr .i5 (.reg .a) s) 0x1EF (by decide +kernel) (setOpr_does .i5 (.reg .a) s)
  | .set_6_b => done (u := setOpr .i6 (.reg .b) s) 0x1F0 (by decide +kernel) (setOpr_does .i6 (.reg .b) s)
  | .set_6_c => done (u := setOpr .i6 (.reg .c) s) 0x1F1 (by decide +kernel) (setOpr_does .i6 (.reg .c) s)
  | .set_6_d => done (u := setOpr .i6 (.reg .d) s) 0x1F2 (by decide +kernel) (setOpr_does .i6 (.reg .d) s)
  | .set_6_e => done (u := setOpr .i6 (.reg .e) s) 0x1F3 (by decide +kernel) (setOpr_does .i6 (.reg .e) s)
  | .set_6_h => done (u := setOpr .i6 (.reg .h) s) 0x1F4 (by decide +kernel) (setOpr_does .i6 (.reg .h) s)
  | .set_6_l => done (u := setOpr .i6 (.reg .l) s) 0x1F5 (by decide +kernel) (setOpr_does .i6 (.reg .l) s)
  | .set_6_atHL => done (u := setOpr .i6 .atHL s) 0x1F6 (by decide +kernel) (setOpr_does .i6 .atHL s)
  | .set_6_a => done (u := setOpr .i6 (.reg .a) s) 0x1F7 (by decide +kernel) (setOpr_does .i6 (.reg .a) s)
  | .set_7_b => done (u := setOpr .i7 (.reg .b) s) 0x1F8 (by decide +kernel) (setOpr_does .i7 (.reg .b) s)
  | .set_7_c => done (u := setOpr .i7 (.reg .c) s) 0x1F9 (by decide +kernel) (setOpr_does .i7 (.reg .c) s)
  | .set_7_d => done (u := setOpr .i7 (.reg .d) s) 0x1FA (by decide +kernel) (setOpr_does .i7 (.reg .d) s)
  | .set_7_e => done (u := setOpr .i7 (.reg .e) s) 0x1FB (by decide +kernel) (setOpr_does .i7 (.reg .e) s)
  | .set_7_h => done (u := setOpr .i7 (.reg .h) s) 0x1FC (by decide +kernel) (setOpr_does .i7 (.reg .h) s)
  | .set_7_l => done (u := setOpr .i7 (.reg .l) s) 0x1FD (by decide +kernel) (setOpr_does .i7 (.reg .l) s)
  | .set_7_atHL => done (u := setOpr .i7 .atHL s) 0x1FE (by decide +kernel) (setOpr_does .i7 .atHL s)
  | .set_7_a => done (u := setOpr .i7 (.reg .a) s) 0x1FF (by decide +kernel) (setOpr_does .i7 (.reg .a) s)
  | .illegal_d3 => absurd rfl (hk .opD3)
  | .illegal_db => absurd rfl (hk .opDB)
  | .illegal_dd => absurd rfl (hk .opDD)
  | .illegal_e3 => absurd rfl (hk .opE3)
  | .illegal_e4 => absurd rfl (hk .opE4)
  | .illegal_eb => absurd rfl (hk .opEB)
  | .illegal_ec => absurd rfl (hk .opEC)
  | .illegal_ed => absurd rfl (hk .opED)
  | .illegal_f4 => absurd rfl (hk .opF4)
  | .illegal_fc => absurd rfl (hk .opFC)
  | .illegal_fd => absurd rfl (hk .opFD)
  | .prefix_cb => absurd rfl hp

end Sys2Proof.Machine
end

