-- ==== Sys2Proof/Laws/PerInstr.lean ====
section
/-! SUPPORT. A statement about the syntax of every instruction, one lemma per constructor: what its encoding depends on, and where
its row of P_CYCLES stands. -/

namespace Sys2Proof.Laws.OpcodeBytes

open Sys2Proof.Machine (opcodeIndex)

/-- STOP's encoding alone depends on P_STOP_LEN (R292), and every row has its place among the 512 of P_CYCLES (R7, R136). -/
def Statement (i : Instr) : Prop := (i = .stop ∨ encode .two i = encode .one i) ∧ opcodeIndex i < 0x200

theorem nop : Statement .nop := ⟨.inr rfl, (by decide : 0x000 < 0x200)⟩

theorem ld_bc_nn (nn : Word) : Statement (.ld_bc_nn nn) := ⟨.inr rfl, (by decide : 0x001 < 0x200)⟩

theorem ld_atBC_a : Statement .ld_atBC_a := ⟨.inr rfl, (by decide : 0x002 < 0x200)⟩

theorem inc_bc : Statement .inc_bc := ⟨.inr rfl, (by decide : 0x003 < 0x200)⟩

theorem inc_b : Statement .inc_b := ⟨.inr rfl, (by decide : 0x004 < 0x200)⟩

theorem dec_b : Statement .dec_b := ⟨.inr rfl, (by decide : 0x005 < 0x200)⟩

theorem ld_b_n (n : Byte) : Statement (.ld_b_n n) := ⟨.inr rfl, (by decide : 0x006 < 0x200)⟩

theorem rlca : Statement .rlca := ⟨.inr rfl, (by decide : 0x007 < 0x200)⟩

theorem ld_atnn_sp (nn : Word) : Statement (.ld_atnn_sp nn) := ⟨.inr rfl, (by decide : 0x008 < 0x200)⟩

theorem add_hl_bc : Statement .add_hl_bc := ⟨.inr rfl, (by decide : 0x009 < 0x200)⟩

theorem ld_a_atBC : Statement .ld_a_atBC := ⟨.inr rfl, (by decide : 0x00A < 0x200)⟩

theorem dec_bc : Statement .dec_bc := ⟨.inr rfl, (by decide : 0x00B < 0x200)⟩

theorem inc_c : Statement .inc_c := ⟨.inr rfl, (by decide : 0x00C < 0x200)⟩

theorem dec_c : Statement .dec_c := ⟨.inr rfl, (by decide : 0x00D < 0x200)⟩

theorem ld_c_n (n : Byte) : Statement (.ld_c_n n) := ⟨.inr rfl, (by decide : 0x00E < 0x200)⟩

theorem rrca : Statement .rrca := ⟨.inr rfl, (by decide : 0x00F < 0x200)⟩

theorem stop : Statement .stop := ⟨.inl rfl, (by decide : 0x010 < 0x200)⟩

theorem ld_de_nn (nn : Word) : Statement (.ld_de_nn nn) := ⟨.inr rfl, (by decide : 0x011 < 0x200)⟩

theorem ld_atDE_a : Statement .ld_atDE_a := ⟨.inr rfl, (by decide : 0x012 < 0x200)⟩

theorem inc_de : Statement .inc_de := ⟨.inr rfl, (by decide : 0x013 < 0x200)⟩

theorem inc_d : Statement .inc_d := ⟨.inr rfl, (by decide : 0x014 < 0x200)⟩

theorem dec_d : Statement .dec_d := ⟨.inr rfl, (by decide : 0x015 < 0x200)⟩

theorem ld_d_n (n : Byte) : Statement (.ld_d_n n) := ⟨.inr rfl, (by decide : 0x016 < 0x200)⟩

theorem rla : Statement .rla := ⟨.inr rfl, (by decide : 0x017 < 0x200)⟩

theorem jr_e (e : Byte) : Statement (.jr_e e) := ⟨.inr rfl, (by decide : 0x018 < 0x200)⟩

theorem add_hl_de : Statement .add_hl_de := ⟨.inr rfl, (by decide : 0x019 < 0x200)⟩

theorem ld_a_atDE : Statement .ld_a_atDE := ⟨.inr rfl, (by decide : 0x01A < 0x200)⟩

theorem dec_de : Statement .dec_de := ⟨.inr rfl, (by decide : 0x01B < 0x200)⟩

theorem inc_e : Statement .inc_e := ⟨.inr rfl, (by decide : 0x01C < 0x200)⟩

theorem dec_e : Statement .dec_e := ⟨.inr rfl, (by decide : 0x01D < 0x200)⟩

theorem ld_e_n (n : Byte) : Statement (.ld_e_n n) := ⟨.inr rfl, (by decide : 0x01E < 0x200)⟩

theorem rra : Statement .rra := ⟨.inr rfl, (by decide : 0x01F < 0x200)⟩

theorem jr_nz_e (e : Byte) : Statement (.jr_nz_e e) := ⟨.inr rfl, (by decide : 0x020 < 0x200)⟩

theorem ld_hl_nn (nn : Word) : Statement (.ld_hl_nn nn) := ⟨.inr rfl, (by decide : 0x021 < 0x200)⟩

theorem ld_atHLi_a : Statement .ld_atHLi_a := ⟨.inr rfl, (by decide : 0x022 < 0x200)⟩

theorem inc_hl : Statement .inc_hl := ⟨.inr rfl, (by decide : 0x023 < 0x200)⟩

theorem inc_h : Statement .inc_h := ⟨.inr rfl, (by decide : 0x024 < 0x200)⟩

theorem dec_h : Statement .dec_h := ⟨.inr rfl, (by decide : 0x025 < 0x200)⟩

theorem ld_h_n (n : Byte) : Statement (.ld_h_n n) := ⟨.inr rfl, (by decide : 0x026 < 0x200)⟩

theorem daa : Statement .daa := ⟨.inr rfl, (by decide : 0x027 < 0x200)⟩

theorem jr_z_e (e : Byte) : Statement (.jr_z_e e) := ⟨.inr rfl, (by decide : 0x028 < 0x200)⟩

theorem add_hl_hl : Statement .add_hl_hl := ⟨.inr rfl, (by decide : 0x029 < 0x200)⟩

theorem ld_a_atHLi : Statement .ld_a_atHLi := ⟨.inr rfl, (by decide : 0x02A < 0x200)⟩

theorem dec_hl : Statement .dec_hl := ⟨.inr rfl, (by decide : 0x02B < 0x200)⟩

theorem inc_l : Statement .inc_l := ⟨.inr rfl, (by decide : 0x02C < 0x200)⟩

theorem dec_l : Statement .dec_l := ⟨.inr rfl, (by decide : 0x02D < 0x200)⟩

theorem ld_l_n (n : Byte) : Statement (.ld_l_n n) := ⟨.inr rfl, (by decide : 0x02E < 0x200)⟩

theorem cpl : Statement .cpl := ⟨.inr rfl, (by decide : 0x02F < 0x200)⟩

theorem jr_nc_e (e : Byte) : Statement (.jr_nc_e e) := ⟨.inr rfl, (by decide : 0x030 < 0x200)⟩

theorem ld_sp_nn (nn : Word) : Statement (.ld_sp_nn nn) := ⟨.inr rfl, (by decide : 0x031 < 0x200)⟩

theorem ld_atHLd_a : Statement .ld_atHLd_a := ⟨.inr rfl, (by decide : 0x032 < 0x200)⟩

theorem inc_sp : Statement .inc_sp := ⟨.inr rfl, (by decide : 0x033 < 0x200)⟩

theorem inc_atHL : Statement .inc_atHL := ⟨.inr rfl, (by decide : 0x034 < 0x200)⟩

theorem dec_atHL : Statement .dec_atHL := ⟨.inr rfl, (by decide : 0x035 < 0x200)⟩

theorem ld_atHL_n (n : Byte) : Statement (.ld_atHL_n n) := ⟨.inr rfl, (by decide : 0x036 < 0x200)⟩

theorem scf : Statement .scf := ⟨.inr rfl, (by decide : 0x037 < 0x200)⟩

theorem jr_c_e (e : Byte) : Statement (.jr_c_e e) := ⟨.inr rfl, (by decide : 0x038 < 0x200)⟩

theorem add_hl_sp : Statement .add_hl_sp := ⟨.inr rfl, (by decide : 0x039 < 0x200)⟩

theorem ld_a_atHLd : Statement .ld_a_atHLd := ⟨.inr rfl, (by decide : 0x03A < 0x200)⟩

theorem dec_sp : Statement .dec_sp := ⟨.inr rfl, (by decide : 0x03B < 0x200)⟩

theorem inc_a : Statement .inc_a := ⟨.inr rfl, (by decide : 0x03C < 0x200)⟩

theorem dec_a : Statement .dec_a := ⟨.inr rfl, (by decide : 0x03D < 0x200)⟩

theorem ld_a_n (n : Byte) : Statement (.ld_a_n n) := ⟨.inr rfl, (by decide : 0x03E < 0x200)⟩

theorem ccf : Statement .ccf := ⟨.inr rfl, (by decide : 0x03F < 0x200)⟩

theorem ld_b_b : Statement .ld_b_b := ⟨.inr rfl, (by decide : 0x040 < 0x200)⟩

theorem ld_b_c : Statement .ld_b_c := ⟨.inr rfl, (by decide : 0x041 < 0x200)⟩

theorem ld_b_d : Statement .ld_b_d := ⟨.inr rfl, (by decide : 0x042 < 0x200)⟩

theorem ld_b_e : Statement .ld_b_e := ⟨.inr rfl, (by decide : 0x043 < 0x200)⟩

theorem ld_b_h : Statement .ld_b_h := ⟨.inr rfl, (by decide : 0x044 < 0x200)⟩

theorem ld_b_l : Statement .ld_b_l := ⟨.inr rfl, (by decide : 0x045 < 0x200)⟩

theorem ld_b_atHL : Statement .ld_b_atHL := ⟨.inr rfl, (by decide : 0x046 < 0x200)⟩

theorem ld_b_a : Statement .ld_b_a := ⟨.inr rfl, (by decide : 0x047 < 0x200)⟩

theorem ld_c_b : Statement .ld_c_b := ⟨.inr rfl, (by decide : 0x048 < 0x200)⟩

theorem ld_c_c : Statement .ld_c_c := ⟨.inr rfl, (by decide : 0x049 < 0x200)⟩

theorem ld_c_d : Statement .ld_c_d := ⟨.inr rfl, (by decide : 0x04A < 0x200)⟩

theorem ld_c_e : Statement .ld_c_e := ⟨.inr rfl, (by decide : 0x04B < 0x200)⟩

theorem ld_c_h : Statement .ld_c_h := ⟨.inr rfl, (by decide : 0x04C < 0x200)⟩

theorem ld_c_l : Statement .ld_c_l := ⟨.inr rfl, (by decide : 0x04D < 0x200)⟩

theorem ld_c_atHL : Statement .ld_c_atHL := ⟨.inr rfl, (by decide : 0x04E < 0x200)⟩

theorem ld_c_a : Statement .ld_c_a := ⟨.inr rfl, (by decide : 0x04F < 0x200)⟩

theorem ld_d_b : Statement .ld_d_b := ⟨.inr rfl, (by decide : 0x050 < 0x200)⟩

theorem ld_d_c : Statement .ld_d_c := ⟨.inr rfl, (by decide : 0x051 < 0x200)⟩

theorem ld_d_d : Statement .ld_d_d := ⟨.inr rfl, (by decide : 0x052 < 0x200)⟩

theorem ld_d_e : Statement .ld_d_e := ⟨.inr rfl, (by decide : 0x053 < 0x200)⟩

theorem ld_d_h : Statement .ld_d_h := ⟨.inr rfl, (by decide : 0x054 < 0x200)⟩

theorem ld_d_l : Statement .ld_d_l := ⟨.inr rfl, (by decide : 0x055 < 0x200)⟩

theorem ld_d_atHL : Statement .ld_d_atHL := ⟨.inr rfl, (by decide : 0x056 < 0x200)⟩

theorem ld_d_a : Statement .ld_d_a := ⟨.inr rfl, (by decide : 0x057 < 0x200)⟩

theorem ld_e_b : Statement .ld_e_b := ⟨.inr rfl, (by decide : 0x058 < 0x200)⟩

theorem ld_e_c : Statement .ld_e_c := ⟨.inr rfl, (by decide : 0x059 < 0x200)⟩

theorem ld_e_d : Statement .ld_e_d := ⟨.inr rfl, (by decide : 0x05A < 0x200)⟩

theorem ld_e_e : Statement .ld_e_e := ⟨.inr rfl, (by decide : 0x05B < 0x200)⟩

theorem ld_e_h : Statement .ld_e_h := ⟨.inr rfl, (by decide : 0x05C < 0x200)⟩

theorem ld_e_l : Statement .ld_e_l := ⟨.inr rfl, (by decide : 0x05D < 0x200)⟩

theorem ld_e_atHL : Statement .ld_e_atHL := ⟨.inr rfl, (by decide : 0x05E < 0x200)⟩

theorem ld_e_a : Statement .ld_e_a := ⟨.inr rfl, (by decide : 0x05F < 0x200)⟩

theorem ld_h_b : Statement .ld_h_b := ⟨.inr rfl, (by decide : 0x060 < 0x200)⟩

theorem ld_h_c : Statement .ld_h_c := ⟨.inr rfl, (by decide : 0x061 < 0x200)⟩

theorem ld_h_d : Statement .ld_h_d := ⟨.inr rfl, (by decide : 0x062 < 0x200)⟩

theorem ld_h_e : Statement .ld_h_e := ⟨.inr rfl, (by decide : 0x063 < 0x200)⟩

theorem ld_h_h : Statement .ld_h_h := ⟨.inr rfl, (by decide : 0x064 < 0x200)⟩

theorem ld_h_l : Statement .ld_h_l := ⟨.inr rfl, (by decide : 0x065 < 0x200)⟩

theorem ld_h_atHL : Statement .ld_h_atHL := ⟨.inr rfl, (by decide : 0x066 < 0x200)⟩

theorem ld_h_a : Statement .ld_h_a := ⟨.inr rfl, (by decide : 0x067 < 0x200)⟩

theorem ld_l_b : Statement .ld_l_b := ⟨.inr rfl, (by decide : 0x068 < 0x200)⟩

theorem ld_l_c : Statement .ld_l_c := ⟨.inr rfl, (by decide : 0x069 < 0x200)⟩

theorem ld_l_d : Statement .ld_l_d := ⟨.inr rfl, (by decide : 0x06A < 0x200)⟩

theorem ld_l_e : Statement .ld_l_e := ⟨.inr rfl, (by decide : 0x06B < 0x200)⟩

theorem ld_l_h : Statement .ld_l_h := ⟨.inr rfl, (by decide : 0x06C < 0x200)⟩

theorem ld_l_l : Statement .ld_l_l := ⟨.inr rfl, (by decide : 0x06D < 0x200)⟩

theorem ld_l_atHL : Statement .ld_l_atHL := ⟨.inr rfl, (by decide : 0x06E < 0x200)⟩

theorem ld_l_a : Statement .ld_l_a := ⟨.inr rfl, (by decide : 0x06F < 0x200)⟩

theorem ld_atHL_b : Statement .ld_atHL_b := ⟨.inr rfl, (by decide : 0x070 < 0x200)⟩

theorem ld_atHL_c : Statement .ld_atHL_c := ⟨.inr rfl, (by decide : 0x071 < 0x200)⟩

theorem ld_atHL_d : Statement .ld_atHL_d := ⟨.inr rfl, (by decide : 0x072 < 0x200)⟩

theorem ld_atHL_e : Statement .ld_atHL_e := ⟨.inr rfl, (by decide : 0x073 < 0x200)⟩

theorem ld_atHL_h : Statement .ld_atHL_h := ⟨.inr rfl, (by decide : 0x074 < 0x200)⟩

theorem ld_atHL_l : Statement .ld_atHL_l := ⟨.inr rfl, (by decide : 0x075 < 0x200)⟩

theorem halt : Statement .halt := ⟨.inr rfl, (by decide : 0x076 < 0x200)⟩

theorem ld_atHL_a : Statement .ld_atHL_a := ⟨.inr rfl, (by decide : 0x077 < 0x200)⟩

theorem ld_a_b : Statement .ld_a_b := ⟨.inr rfl, (by decide : 0x078 < 0x200)⟩

theorem ld_a_c : Statement .ld_a_c := ⟨.inr rfl, (by decide : 0x079 < 0x200)⟩

theorem ld_a_d : Statement .ld_a_d := ⟨.inr rfl, (by decide : 0x07A < 0x200)⟩

theorem ld_a_e : Statement .ld_a_e := ⟨.inr rfl, (by decide : 0x07B < 0x200)⟩

theorem ld_a_h : Statement .ld_a_h := ⟨.inr rfl, (by decide : 0x07C < 0x200)⟩

theorem ld_a_l : Statement .ld_a_l := ⟨.inr rfl, (by decide : 0x07D < 0x200)⟩

theorem ld_a_atHL : Statement .ld_a_atHL := ⟨.inr rfl, (by decide : 0x07E < 0x200)⟩

theorem ld_a_a : Statement .ld_a_a := ⟨.inr rfl, (by decide : 0x07F < 0x200)⟩

theorem add_a_b : Statement .add_a_b := ⟨.inr rfl, (by decide : 0x080 < 0x200)⟩

theorem add_a_c : Statement .add_a_c := ⟨.inr rfl, (by decide : 0x081 < 0x200)⟩

theorem add_a_d : Statement .add_a_d := ⟨.inr rfl, (by decide : 0x082 < 0x200)⟩

theorem add_a_e : Statement .add_a_e := ⟨.inr rfl, (by decide : 0x083 < 0x200)⟩

theorem add_a_h : Statement .add_a_h := ⟨.inr rfl, (by decide : 0x084 < 0x200)⟩

theorem add_a_l : Statement .add_a_l := ⟨.inr rfl, (by decide : 0x085 < 0x200)⟩

theorem add_a_atHL : Statement .add_a_atHL := ⟨.inr rfl, (by decide : 0x086 < 0x200)⟩

theorem add_a_a : Statement .add_a_a := ⟨.inr rfl, (by decide : 0x087 < 0x200)⟩

theorem adc_a_b : Statement .adc_a_b := ⟨.inr rfl, (by decide : 0x088 < 0x200)⟩

theorem adc_a_c : Statement .adc_a_c := ⟨.inr rfl, (by decide : 0x089 < 0x200)⟩

theorem adc_a_d : Statement .adc_a_d := ⟨.inr rfl, (by decide : 0x08A < 0x200)⟩

theorem adc_a_e : Statement .adc_a_e := ⟨.inr rfl, (by decide : 0x08B < 0x200)⟩

theorem adc_a_h : Statement .adc_a_h := ⟨.inr rfl, (by decide : 0x08C < 0x200)⟩

theorem adc_a_l : Statement .adc_a_l := ⟨.inr rfl, (by decide : 0x08D < 0x200)⟩

theorem adc_a_atHL : Statement .adc_a_atHL := ⟨.inr rfl, (by decide : 0x08E < 0x200)⟩

theorem adc_a_a : Statement .adc_a_a := ⟨.inr rfl, (by decide : 0x08F < 0x200)⟩

theorem sub_a_b : Statement .sub_a_b := ⟨.inr rfl, (by decide : 0x090 < 0x200)⟩

theorem sub_a_c : Statement .sub_a_c := ⟨.inr rfl, (by decide : 0x091 < 0x200)⟩

theorem sub_a_d : Statement .sub_a_d := ⟨.inr rfl, (by decide : 0x092 < 0x200)⟩

theorem sub_a_e : Statement .sub_a_e := ⟨.inr rfl, (by decide : 0x093 < 0x200)⟩

theorem sub_a_h : Statement .sub_a_h := ⟨.inr rfl, (by decide : 0x094 < 0x200)⟩

theorem sub_a_l : Statement .sub_a_l := ⟨.inr rfl, (by decide : 0x095 < 0x200)⟩

theorem sub_a_atHL : Statement .sub_a_atHL := ⟨.inr rfl, (by decide : 0x096 < 0x200)⟩

theorem sub_a_a : Statement .sub_a_a := ⟨.inr rfl, (by decide : 0x097 < 0x200)⟩

theorem sbc_a_b : Statement .sbc_a_b := ⟨.inr rfl, (by decide : 0x098 < 0x200)⟩

theorem sbc_a_c : Statement .sbc_a_c := ⟨.inr rfl, (by decide : 0x099 < 0x200)⟩

theorem sbc_a_d : Statement .sbc_a_d := ⟨.inr rfl, (by decide : 0x09A < 0x200)⟩

theorem sbc_a_e : Statement .sbc_a_e := ⟨.inr rfl, (by decide : 0x09B < 0x200)⟩

theorem sbc_a_h : Statement .sbc_a_h := ⟨.inr rfl, (by decide : 0x09C < 0x200)⟩

theorem sbc_a_l : Statement .sbc_a_l := ⟨.inr rfl, (by decide : 0x09D < 0x200)⟩

theorem sbc_a_atHL : Statement .sbc_a_atHL := ⟨.inr rfl, (by decide : 0x09E < 0x200)⟩

theorem sbc_a_a : Statement .sbc_a_a := ⟨.inr rfl, (by decide : 0x09F < 0x200)⟩

theorem and_a_b : Statement .and_a_b := ⟨.inr rfl, (by decide : 0x0A0 < 0x200)⟩

theorem and_a_c : Statement .and_a_c := ⟨.inr rfl, (by decide : 0x0A1 < 0x200)⟩

theorem and_a_d : Statement .and_a_d := ⟨.inr rfl, (by decide : 0x0A2 < 0x200)⟩

theorem and_a_e : Statement .and_a_e := ⟨.inr rfl, (by decide : 0x0A3 < 0x200)⟩

theorem and_a_h : Statement .and_a_h := ⟨.inr rfl, (by decide : 0x0A4 < 0x200)⟩

theorem and_a_l : Statement .and_a_l := ⟨.inr rfl, (by decide : 0x0A5 < 0x200)⟩

theorem and_a_atHL : Statement .and_a_atHL := ⟨.inr rfl, (by decide : 0x0A6 < 0x200)⟩

theorem and_a_a : Statement .and_a_a := ⟨.inr rfl, (by decide : 0x0A7 < 0x200)⟩

theorem xor_a_b : Statement .xor_a_b := ⟨.inr rfl, (by decide : 0x0A8 < 0x200)⟩

theorem xor_a_c : Statement .xor_a_c := ⟨.inr rfl, (by decide : 0x0A9 < 0x200)⟩

theorem xor_a_d : Statement .xor_a_d := ⟨.inr rfl, (by decide : 0x0AA < 0x200)⟩

theorem xor_a_e : Statement .xor_a_e := ⟨.inr rfl, (by decide : 0x0AB < 0x200)⟩

theorem xor_a_h : Statement .xor_a_h := ⟨.inr rfl, (by decide : 0x0AC < 0x200)⟩

theorem xor_a_l : Statement .xor_a_l := ⟨.inr rfl, (by decide : 0x0AD < 0x200)⟩

theorem xor_a_atHL : Statement .xor_a_atHL := ⟨.inr rfl, (by decide : 0x0AE < 0x200)⟩

theorem xor_a_a : Statement .xor_a_a := ⟨.inr rfl, (by decide : 0x0AF < 0x200)⟩

theorem or_a_b : Statement .or_a_b := ⟨.inr rfl, (by decide : 0x0B0 < 0x200)⟩

theorem or_a_c : Statement .or_a_c := ⟨.inr rfl, (by decide : 0x0B1 < 0x200)⟩

theorem or_a_d : Statement .or_a_d := ⟨.inr rfl, (by decide : 0x0B2 < 0x200)⟩

theorem or_a_e : Statement .or_a_e := ⟨.inr rfl, (by decide : 0x0B3 < 0x200)⟩

theorem or_a_h : Statement .or_a_h := ⟨.inr rfl, (by decide : 0x0B4 < 0x200)⟩

theorem or_a_l : Statement .or_a_l := ⟨.inr rfl, (by decide : 0x0B5 < 0x200)⟩

theorem or_a_atHL : Statement .or_a_atHL := ⟨.inr rfl, (by decide : 0x0B6 < 0x200)⟩

theorem or_a_a : Statement .or_a_a := ⟨.inr rfl, (by decide : 0x0B7 < 0x200)⟩

theorem cp_a_b : Statement .cp_a_b := ⟨.inr rfl, (by decide : 0x0B8 < 0x200)⟩

theorem cp_a_c : Statement .cp_a_c := ⟨.inr rfl, (by decide : 0x0B9 < 0x200)⟩

theorem cp_a_d : Statement .cp_a_d := ⟨.inr rfl, (by decide : 0x0BA < 0x200)⟩

theorem cp_a_e : Statement .cp_a_e := ⟨.inr rfl, (by decide : 0x0BB < 0x200)⟩

theorem cp_a_h : Statement .cp_a_h := ⟨.inr rfl, (by decide : 0x0BC < 0x200)⟩

theorem cp_a_l : Statement .cp_a_l := ⟨.inr rfl, (by decide : 0x0BD < 0x200)⟩

theorem cp_a_atHL : Statement .cp_a_atHL := ⟨.inr rfl, (by decide : 0x0BE < 0x200)⟩

theorem cp_a_a : Statement .cp_a_a := ⟨.inr rfl, (by decide : 0x0BF < 0x200)⟩

theorem ret_nz : Statement .ret_nz := ⟨.inr rfl, (by decide : 0x0C0 < 0x200)⟩

theorem pop_bc : Statement .pop_bc := ⟨.inr rfl, (by decide : 0x0C1 < 0x200)⟩

theorem jp_nz_nn (nn : Word) : Statement (.jp_nz_nn nn) := ⟨.inr rfl, (by decide : 0x0C2 < 0x200)⟩

theorem jp_nn (nn : Word) : Statement (.jp_nn nn) := ⟨.inr rfl, (by decide : 0x0C3 < 0x200)⟩

theorem call_nz_nn (nn : Word) : Statement (.call_nz_nn nn) := ⟨.inr rfl, (by decide : 0x0C4 < 0x200)⟩

theorem push_bc : Statement .push_bc := ⟨.inr rfl, (by decide : 0x0C5 < 0x200)⟩

theorem add_a_n (n : Byte) : Statement (.add_a_n n) := ⟨.inr rfl, (by decide : 0x0C6 < 0x200)⟩

theorem rst_00 : Statement .rst_00 := ⟨.inr rfl, (by decide : 0x0C7 < 0x200)⟩

theorem ret_z : Statement .ret_z := ⟨.inr rfl, (by decide : 0x0C8 < 0x200)⟩

theorem ret : Statement .ret := ⟨.inr rfl, (by decide : 0x0C9 < 0x200)⟩

theorem jp_z_nn (nn : Word) : Statement (.jp_z_nn nn) := ⟨.inr rfl, (by decide : 0x0CA < 0x200)⟩

theorem prefix_cb : Statement .prefix_cb := ⟨.inr rfl, (by decide : 0x0CB < 0x200)⟩

theorem call_z_nn (nn : Word) : Statement (.call_z_nn nn) := ⟨.inr rfl, (by decide : 0x0CC < 0x200)⟩

theorem call_nn (nn : Word) : Statement (.call_nn nn) := ⟨.inr rfl, (by decide : 0x0CD < 0x200)⟩

theorem adc_a_n (n : Byte) : Statement (.adc_a_n n) := ⟨.inr rfl, (by decide : 0x0CE < 0x200)⟩

theorem rst_08 : Statement .rst_08 := ⟨.inr rfl, (by decide : 0x0CF < 0x200)⟩

theorem ret_nc : Statement .ret_nc := ⟨.inr rfl, (by decide : 0x0D0 < 0x200)⟩

theorem pop_de : Statement .pop_de := ⟨.inr rfl, (by decide : 0x0D1 < 0x200)⟩

theorem jp_nc_nn (nn : Word) : Statement (.jp_nc_nn nn) := ⟨.inr rfl, (by decide : 0x0D2 < 0x200)⟩

theorem illegal_d3 : Statement .illegal_d3 := ⟨.inr rfl, (by decide : 0x0D3 < 0x200)⟩

theorem call_nc_nn (nn : Word) : Statement (.call_nc_nn nn) := ⟨.inr rfl, (by decide : 0x0D4 < 0x200)⟩

theorem push_de : Statement .push_de := ⟨.inr rfl, (by decide : 0x0D5 < 0x200)⟩

theorem sub_a_n (n : Byte) : Statement (.sub_a_n n) := ⟨.inr rfl, (by decide : 0x0D6 < 0x200)⟩

theorem rst_10 : Statement .rst_10 := ⟨.inr rfl, (by decide : 0x0D7 < 0x200)⟩

theorem ret_c : Statement .ret_c := ⟨.inr rfl, (by decide : 0x0D8 < 0x200)⟩

theorem reti : Statement .reti := ⟨.inr rfl, (by decide : 0x0D9 < 0x200)⟩

theorem jp_c_nn (nn : Word) : Statement (.jp_c_nn nn) := ⟨.inr rfl, (by decide : 0x0DA < 0x200)⟩

theorem illegal_db : Statement .illegal_db := ⟨.inr rfl, (by decide : 0x0DB < 0x200)⟩

theorem call_c_nn (nn : Word) : Statement (.call_c_nn nn) := ⟨.inr rfl, (by decide : 0x0DC < 0x200)⟩

theorem illegal_dd : Statement .illegal_dd := ⟨.inr rfl, (by decide : 0x0DD < 0x200)⟩

theorem sbc_a_n (n : Byte) : Statement (.sbc_a_n n) := ⟨.inr rfl, (by decide : 0x0DE < 0x200)⟩

theorem rst_18 : Statement .rst_18 := ⟨.inr rfl, (by decide : 0x0DF < 0x200)⟩

theorem ldh_atn_a (n : Byte) : Statement (.ldh_atn_a n) := ⟨.inr rfl, (by decide : 0x0E0 < 0x200)⟩

theorem pop_hl : Statement .pop_hl := ⟨.inr rfl, (by decide : 0x0E1 < 0x200)⟩

theorem ld_atC_a : Statement .ld_atC_a := ⟨.inr rfl, (by decide : 0x0E2 < 0x200)⟩

theorem illegal_e3 : Statement .illegal_e3 := ⟨.inr rfl, (by decide : 0x0E3 < 0x200)⟩

theorem illegal_e4 : Statement .illegal_e4 := ⟨.inr rfl, (by decide : 0x0E4 < 0x200)⟩

theorem push_hl : Statement .push_hl := ⟨.inr rfl, (by decide : 0x0E5 < 0x200)⟩

theorem and_a_n (n : Byte) : Statement (.and_a_n n) := ⟨.inr rfl, (by decide : 0x0E6 < 0x200)⟩

theorem rst_20 : Statement .rst_20 := ⟨.inr rfl, (by decide : 0x0E7 < 0x200)⟩

theorem add_sp_e (e : Byte) : Statement (.add_sp_e e) := ⟨.inr rfl, (by decide : 0x0E8 < 0x200)⟩

theorem jp_atHL : Statement .jp_atHL := ⟨.inr rfl, (by decide : 0x0E9 < 0x200)⟩

theorem ld_atnn_a (nn : Word) : Statement (.ld_atnn_a nn) := ⟨.inr rfl, (by decide : 0x0EA < 0x200)⟩

theorem illegal_eb : Statement .illegal_eb := ⟨.inr rfl, (by decide : 0x0EB < 0x200)⟩

theorem illegal_ec : Statement .illegal_ec := ⟨.inr rfl, (by decide : 0x0EC < 0x200)⟩

theorem illegal_ed : Statement .illegal_ed := ⟨.inr rfl, (by decide : 0x0ED < 0x200)⟩

theorem xor_a_n (n : Byte) : Statement (.xor_a_n n) := ⟨.inr rfl, (by decide : 0x0EE < 0x200)⟩

theorem rst_28 : Statement .rst_28 := ⟨.inr rfl, (by decide : 0x0EF < 0x200)⟩

theorem ldh_a_atn (n : Byte) : Statement (.ldh_a_atn n) := ⟨.inr rfl, (by decide : 0x0F0 < 0x200)⟩

theorem pop_af : Statement .pop_af := ⟨.inr rfl, (by decide : 0x0F1 < 0x200)⟩

theorem ld_a_atC : Statement .ld_a_atC := ⟨.inr rfl, (by decide : 0x0F2 < 0x200)⟩

theorem di : Statement .di := ⟨.inr rfl, (by decide : 0x0F3 < 0x200)⟩

theorem illegal_f4 : Statement .illegal_f4 := ⟨.inr rfl, (by decide : 0x0F4 < 0x200)⟩

theorem push_af : Statement .push_af := ⟨.inr rfl, (by decide : 0x0F5 < 0x200)⟩

theorem or_a_n (n : Byte) : Statement (.or_a_n n) := ⟨.inr rfl, (by decide : 0x0F6 < 0x200)⟩

theorem rst_30 : Statement .rst_30 := ⟨.inr rfl, (by decide : 0x0F7 < 0x200)⟩

theorem ld_hl_sp_e (e : Byte) : Statement (.ld_hl_sp_e e) := ⟨.inr rfl, (by decide : 0x0F8 < 0x200)⟩

theorem ld_sp_hl : Statement .ld_sp_hl := ⟨.inr rfl, (by decide : 0x0F9 < 0x200)⟩

theorem ld_a_atnn (nn : Word) : Statement (.ld_a_atnn nn) := ⟨.inr rfl, (by decide : 0x0FA < 0x200)⟩

theorem ei : Statement .ei := ⟨.inr rfl, (by decide : 0x0FB < 0x200)⟩

theorem illegal_fc : Statement .illegal_fc := ⟨.inr rfl, (by decide : 0x0FC < 0x200)⟩

theorem illegal_fd : Statement .illegal_fd := ⟨.inr rfl, (by decide : 0x0FD < 0x200)⟩

theorem cp_a_n (n : Byte) : Statement (.cp_a_n n) := ⟨.inr rfl, (by decide : 0x0FE < 0x200)⟩

theorem rst_38 : Statement .rst_38 := ⟨.inr rfl, (by decide : 0x0FF < 0x200)⟩

theorem rlc_b : Statement .rlc_b := ⟨.inr rfl, (by decide : 0x100 < 0x200)⟩

theorem rlc_c : Statement .rlc_c := ⟨.inr rfl, (by decide : 0x101 < 0x200)⟩

theorem rlc_d : Statement .rlc_d := ⟨.inr rfl, (by decide : 0x102 < 0x200)⟩

theorem rlc_e : Statement .rlc_e := ⟨.inr rfl, (by decide : 0x103 < 0x200)⟩

theorem rlc_h : Statement .rlc_h := ⟨.inr rfl, (by decide : 0x104 < 0x200)⟩

theorem rlc_l : Statement .rlc_l := ⟨.inr rfl, (by decide : 0x105 < 0x200)⟩

theorem rlc_atHL : Statement .rlc_atHL := ⟨.inr rfl, (by decide : 0x106 < 0x200)⟩

theorem rlc_a : Statement .rlc_a := ⟨.inr rfl, (by decide : 0x107 < 0x200)⟩

theorem rrc_b : Statement .rrc_b := ⟨.inr rfl, (by decide : 0x108 < 0x200)⟩

theorem rrc_c : Statement .rrc_c := ⟨.inr rfl, (by decide : 0x109 < 0x200)⟩

theorem rrc_d : Statement .rrc_d := ⟨.inr rfl, (by decide : 0x10A < 0x200)⟩

theorem rrc_e : Statement .rrc_e := ⟨.inr rfl, (by decide : 0x10B < 0x200)⟩

theorem rrc_h : Statement .rrc_h := ⟨.inr rfl, (by decide : 0x10C < 0x200)⟩

theorem rrc_l : Statement .rrc_l := ⟨.inr rfl, (by decide : 0x10D < 0x200)⟩

theorem rrc_atHL : Statement .rrc_atHL := ⟨.inr rfl, (by decide : 0x10E < 0x200)⟩

theorem rrc_a : Statement .rrc_a := ⟨.inr rfl, (by decide : 0x10F < 0x200)⟩

theorem rl_b : Statement .rl_b := ⟨.inr rfl, (by decide : 0x110 < 0x200)⟩

theorem rl_c : Statement .rl_c := ⟨.inr rfl, (by decide : 0x111 < 0x200)⟩

theorem rl_d : Statement .rl_d := ⟨.inr rfl, (by decide : 0x112 < 0x200)⟩

theorem rl_e : Statement .rl_e := ⟨.inr rfl, (by decide : 0x113 < 0x200)⟩

theorem rl_h : Statement .rl_h := ⟨.inr rfl, (by decide : 0x114 < 0x200)⟩

theorem rl_l : Statement .rl_l := ⟨.inr rfl, (by decide : 0x115 < 0x200)⟩

theorem rl_atHL : Statement .rl_atHL := ⟨.inr rfl, (by decide : 0x116 < 0x200)⟩

theorem rl_a : Statement .rl_a := ⟨.inr rfl, (by decide : 0x117 < 0x200)⟩

theorem rr_b : Statement .rr_b := ⟨.inr rfl, (by decide : 0x118 < 0x200)⟩

theorem rr_c : Statement .rr_c := ⟨.inr rfl, (by decide : 0x119 < 0x200)⟩

theorem rr_d : Statement .rr_d := ⟨.inr rfl, (by decide : 0x11A < 0x200)⟩

theorem rr_e : Statement .rr_e := ⟨.inr rfl, (by decide : 0x11B < 0x200)⟩

theorem rr_h : Statement .rr_h := ⟨.inr rfl, (by decide : 0x11C < 0x200)⟩

theorem rr_l : Statement .rr_l := ⟨.inr rfl, (by decide : 0x11D < 0x200)⟩

theorem rr_atHL : Statement .rr_atHL := ⟨.inr rfl, (by decide : 0x11E < 0x200)⟩

theorem rr_a : Statement .rr_a := ⟨.inr rfl, (by decide : 0x11F < 0x200)⟩

theorem sla_b : Statement .sla_b := ⟨.inr rfl, (by decide : 0x120 < 0x200)⟩

theorem sla_c : Statement .sla_c := ⟨.inr rfl, (by decide : 0x121 < 0x200)⟩

theorem sla_d : Statement .sla_d := ⟨.inr rfl, (by decide : 0x122 < 0x200)⟩

theorem sla_e : Statement .sla_e := ⟨.inr rfl, (by decide : 0x123 < 0x200)⟩

theorem sla_h : Statement .sla_h := ⟨.inr rfl, (by decide : 0x124 < 0x200)⟩

theorem sla_l : Statement .sla_l := ⟨.inr rfl, (by decide : 0x125 < 0x200)⟩

theorem sla_atHL : Statement .sla_atHL := ⟨.inr rfl, (by decide : 0x126 < 0x200)⟩

theorem sla_a : Statement .sla_a := ⟨.inr rfl, (by decide : 0x127 < 0x200)⟩

theorem sra_b : Statement .sra_b := ⟨.inr rfl, (by decide : 0x128 < 0x200)⟩

theorem sra_c : Statement .sra_c := ⟨.inr rfl, (by decide : 0x129 < 0x200)⟩

theorem sra_d : Statement .sra_d := ⟨.inr rfl, (by decide : 0x12A < 0x200)⟩

theorem sra_e : Statement .sra_e := ⟨.inr rfl, (by decide : 0x12B < 0x200)⟩

theorem sra_h : Statement .sra_h := ⟨.inr rfl, (by decide : 0x12C < 0x200)⟩

theorem sra_l : Statement .sra_l := ⟨.inr rfl, (by decide : 0x12D < 0x200)⟩

theorem sra_atHL : Statement .sra_atHL := ⟨.inr rfl, (by decide : 0x12E < 0x200)⟩

theorem sra_a : Statement .sra_a := ⟨.inr rfl, (by decide : 0x12F < 0x200)⟩

theorem swap_b : Statement .swap_b := ⟨.inr rfl, (by decide : 0x130 < 0x200)⟩

theorem swap_c : Statement .swap_c := ⟨.inr rfl, (by decide : 0x131 < 0x200)⟩

theorem swap_d : Statement .swap_d := ⟨.inr rfl, (by decide : 0x132 < 0x200)⟩

theorem swap_e : Statement .swap_e := ⟨.inr rfl, (by decide : 0x133 < 0x200)⟩

theorem swap_h : Statement .swap_h := ⟨.inr rfl, (by decide : 0x134 < 0x200)⟩

theorem swap_l : Statement .swap_l := ⟨.inr rfl, (by decide : 0x135 < 0x200)⟩

theorem swap_atHL : Statement .swap_atHL := ⟨.inr rfl, (by decide : 0x136 < 0x200)⟩

theorem swap_a : Statement .swap_a := ⟨.inr rfl, (by decide : 0x137 < 0x200)⟩

theorem srl_b : Statement .srl_b := ⟨.inr rfl, (by decide : 0x138 < 0x200)⟩

theorem srl_c : Statement .srl_c := ⟨.inr rfl, (by decide : 0x139 < 0x200)⟩

theorem srl_d : Statement .srl_d := ⟨.inr rfl, (by decide : 0x13A < 0x200)⟩

theorem srl_e : Statement .srl_e := ⟨.inr rfl, (by decide : 0x13B < 0x200)⟩

theorem srl_h : Statement .srl_h := ⟨.inr rfl, (by decide : 0x13C < 0x200)⟩

theorem srl_l : Statement .srl_l := ⟨.inr rfl, (by decide : 0x13D < 0x200)⟩

theorem srl_atHL : Statement .srl_atHL := ⟨.inr rfl, (by decide : 0x13E < 0x200)⟩

theorem srl_a : Statement .srl_a := ⟨.inr rfl, (by decide : 0x13F < 0x200)⟩

theorem bit_0_b : Statement .bit_0_b := ⟨.inr rfl, (by decide : 0x140 < 0x200)⟩

theorem bit_0_c : Statement .bit_0_c := ⟨.inr rfl, (by decide : 0x141 < 0x200)⟩

theorem bit_0_d : Statement .bit_0_d := ⟨.inr rfl, (by decide : 0x142 < 0x200)⟩

theorem bit_0_e : Statement .bit_0_e := ⟨.inr rfl, (by decide : 0x143 < 0x200)⟩

theorem bit_0_h : Statement .bit_0_h := ⟨.inr rfl, (by decide : 0x144 < 0x200)⟩

theorem bit_0_l : Statement .bit_0_l := ⟨.inr rfl, (by decide : 0x145 < 0x200)⟩

theorem bit_0_atHL : Statement .bit_0_atHL := ⟨.inr rfl, (by decide : 0x146 < 0x200)⟩

theorem bit_0_a : Statement .bit_0_a := ⟨.inr rfl, (by decide : 0x147 < 0x200)⟩

theorem bit_1_b : Statement .bit_1_b := ⟨.inr rfl, (by decide : 0x148 < 0x200)⟩

theorem bit_1_c : Statement .bit_1_c := ⟨.inr rfl, (by decide : 0x149 < 0x200)⟩

theorem bit_1_d : Statement .bit_1_d := ⟨.inr rfl, (by decide : 0x14A < 0x200)⟩

theorem bit_1_e : Statement .bit_1_e := ⟨.inr rfl, (by decide : 0x14B < 0x200)⟩

theorem bit_1_h : Statement .bit_1_h := ⟨.inr rfl, (by decide : 0x14C < 0x200)⟩

theorem bit_1_l : Statement .bit_1_l := ⟨.inr rfl, (by decide : 0x14D < 0x200)⟩

theorem bit_1_atHL : Statement .bit_1_atHL := ⟨.inr rfl, (by decide : 0x14E < 0x200)⟩

theorem bit_1_a : Statement .bit_1_a := ⟨.inr rfl, (by decide : 0x14F < 0x200)⟩

theorem bit_2_b : Statement .bit_2_b := ⟨.inr rfl, (by decide : 0x150 < 0x200)⟩

theorem bit_2_c : Statement .bit_2_c := ⟨.inr rfl, (by decide : 0x151 < 0x200)⟩

theorem bit_2_d : Statement .bit_2_d := ⟨.inr rfl, (by decide : 0x152 < 0x200)⟩

theorem bit_2_e : Statement .bit_2_e := ⟨.inr rfl, (by decide : 0x153 < 0x200)⟩

theorem bit_2_h : Statement .bit_2_h := ⟨.inr rfl, (by decide : 0x154 < 0x200)⟩

theorem bit_2_l : Statement .bit_2_l := ⟨.inr rfl, (by decide : 0x155 < 0x200)⟩

theorem bit_2_atHL : Statement .bit_2_atHL := ⟨.inr rfl, (by decide : 0x156 < 0x200)⟩

theorem bit_2_a : Statement .bit_2_a := ⟨.inr rfl, (by decide : 0x157 < 0x200)⟩

theorem bit_3_b : Statement .bit_3_b := ⟨.inr rfl, (by decide : 0x158 < 0x200)⟩

theorem bit_3_c : Statement .bit_3_c := ⟨.inr rfl, (by decide : 0x159 < 0x200)⟩

theorem bit_3_d : Statement .bit_3_d := ⟨.inr rfl, (by decide : 0x15A < 0x200)⟩

theorem bit_3_e : Statement .bit_3_e := ⟨.inr rfl, (by decide : 0x15B < 0x200)⟩

theorem bit_3_h : Statement .bit_3_h := ⟨.inr rfl, (by decide : 0x15C < 0x200)⟩

theorem bit_3_l : Statement .bit_3_l := ⟨.inr rfl, (by decide : 0x15D < 0x200)⟩

theorem bit_3_atHL : Statement .bit_3_atHL := ⟨.inr rfl, (by decide : 0x15E < 0x200)⟩

theorem bit_3_a : Statement .bit_3_a := ⟨.inr rfl, (by decide : 0x15F < 0x200)⟩

theorem bit_4_b : Statement .bit_4_b := ⟨.inr rfl, (by decide : 0x160 < 0x200)⟩

theorem bit_4_c : Statement .bit_4_c := ⟨.inr rfl, (by decide : 0x161 < 0x200)⟩

theorem bit_4_d : Statement .bit_4_d := ⟨.inr rfl, (by decide : 0x162 < 0x200)⟩

theorem bit_4_e : Statement .bit_4_e := ⟨.inr rfl, (by decide : 0x163 < 0x200)⟩

theorem bit_4_h : Statement .bit_4_h := ⟨.inr rfl, (by decide : 0x164 < 0x200)⟩

theorem bit_4_l : Statement .bit_4_l := ⟨.inr rfl, (by decide : 0x165 < 0x200)⟩

theorem bit_4_atHL : Statement .bit_4_atHL := ⟨.inr rfl, (by decide : 0x166 < 0x200)⟩

theorem bit_4_a : Statement .bit_4_a := ⟨.inr rfl, (by decide : 0x167 < 0x200)⟩

theorem bit_5_b : Statement .bit_5_b := ⟨.inr rfl, (by decide : 0x168 < 0x200)⟩

theorem bit_5_c : Statement .bit_5_c := ⟨.inr rfl, (by decide : 0x169 < 0x200)⟩

theorem bit_5_d : Statement .bit_5_d := ⟨.inr rfl, (by decide : 0x16A < 0x200)⟩

theorem bit_5_e : Statement .bit_5_e := ⟨.inr rfl, (by decide : 0x16B < 0x200)⟩

theorem bit_5_h : Statement .bit_5_h := ⟨.inr rfl, (by decide : 0x16C < 0x200)⟩

theorem bit_5_l : Statement .bit_5_l := ⟨.inr rfl, (by decide : 0x16D < 0x200)⟩

theorem bit_5_atHL : Statement .bit_5_atHL := ⟨.inr rfl, (by decide : 0x16E < 0x200)⟩

theorem bit_5_a : Statement .bit_5_a := ⟨.inr rfl, (by decide : 0x16F < 0x200)⟩

theorem bit_6_b : Statement .bit_6_b := ⟨.inr rfl, (by decide : 0x170 < 0x200)⟩

theorem bit_6_c : Statement .bit_6_c := ⟨.inr rfl, (by decide : 0x171 < 0x200)⟩

theorem bit_6_d : Statement .bit_6_d := ⟨.inr rfl, (by decide : 0x172 < 0x200)⟩

theorem bit_6_e : Statement .bit_6_e := ⟨.inr rfl, (by decide : 0x173 < 0x200)⟩

theorem bit_6_h : Statement .bit_6_h := ⟨.inr rfl, (by decide : 0x174 < 0x200)⟩

theorem bit_6_l : Statement .bit_6_l := ⟨.inr rfl, (by decide : 0x175 < 0x200)⟩

theorem bit_6_atHL : Statement .bit_6_atHL := ⟨.inr rfl, (by decide : 0x176 < 0x200)⟩

theorem bit_6_a : Statement .bit_6_a := ⟨.inr rfl, (by decide : 0x177 < 0x200)⟩

theorem bit_7_b : Statement .bit_7_b := ⟨.inr rfl, (by decide : 0x178 < 0x200)⟩

theorem bit_7_c : Statement .bit_7_c := ⟨.inr rfl, (by decide : 0x179 < 0x200)⟩

theorem bit_7_d : Statement .bit_7_d := ⟨.inr rfl, (by decide : 0x17A < 0x200)⟩

theorem bit_7_e : Statement .bit_7_e := ⟨.inr rfl, (by decide : 0x17B < 0x200)⟩

theorem bit_7_h : Statement .bit_7_h := ⟨.inr rfl, (by decide : 0x17C < 0x200)⟩

theorem bit_7_l : Statement .bit_7_l := ⟨.inr rfl, (by decide : 0x17D < 0x200)⟩

theorem bit_7_atHL : Statement .bit_7_atHL := ⟨.inr rfl, (by decide : 0x17E < 0x200)⟩

theorem bit_7_a : Statement .bit_7_a := ⟨.inr rfl, (by decide : 0x17F < 0x200)⟩

theorem res_0_b : Statement .res_0_b := ⟨.inr rfl, (by decide : 0x180 < 0x200)⟩

theorem res_0_c : Statement .res_0_c := ⟨.inr rfl, (by decide : 0x181 < 0x200)⟩

theorem res_0_d : Statement .res_0_d := ⟨.inr rfl, (by decide : 0x182 < 0x200)⟩

theorem res_0_e : Statement .res_0_e := ⟨.inr rfl, (by decide : 0x183 < 0x200)⟩

theorem res_0_h : Statement .res_0_h := ⟨.inr rfl, (by decide : 0x184 < 0x200)⟩

theorem res_0_l : Statement .res_0_l := ⟨.inr rfl, (by decide : 0x185 < 0x200)⟩

theorem res_0_atHL : Statement .res_0_atHL := ⟨.inr rfl, (by decide : 0x186 < 0x200)⟩

theorem res_0_a : Statement .res_0_a := ⟨.inr rfl, (by decide : 0x187 < 0x200)⟩

theorem res_1_b : Statement .res_1_b := ⟨.inr rfl, (by decide : 0x188 < 0x200)⟩

theorem res_1_c : Statement .res_1_c := ⟨.inr rfl, (by decide : 0x189 < 0x200)⟩

theorem res_1_d : Statement .res_1_d := ⟨.inr rfl, (by decide : 0x18A < 0x200)⟩

theorem res_1_e : Statement .res_1_e := ⟨.inr rfl, (by decide : 0x18B < 0x200)⟩

theorem res_1_h : Statement .res_1_h := ⟨.inr rfl, (by decide : 0x18C < 0x200)⟩

theorem res_1_l : Statement .res_1_l := ⟨.inr rfl, (by decide : 0x18D < 0x200)⟩

theorem res_1_atHL : Statement .res_1_atHL := ⟨.inr rfl, (by decide : 0x18E < 0x200)⟩

theorem res_1_a : Statement .res_1_a := ⟨.inr rfl, (by decide : 0x18F < 0x200)⟩

theorem res_2_b : Statement .res_2_b := ⟨.inr rfl, (by decide : 0x190 < 0x200)⟩

theorem res_2_c : Statement .res_2_c := ⟨.inr rfl, (by decide : 0x191 < 0x200)⟩

theorem res_2_d : Statement .res_2_d := ⟨.inr rfl, (by decide : 0x192 < 0x200)⟩

theorem res_2_e : Statement .res_2_e := ⟨.inr rfl, (by decide : 0x193 < 0x200)⟩

theorem res_2_h : Statement .res_2_h := ⟨.inr rfl, (by decide : 0x194 < 0x200)⟩

theorem res_2_l : Statement .res_2_l := ⟨.inr rfl, (by decide : 0x195 < 0x200)⟩

theorem res_2_atHL : Statement .res_2_atHL := ⟨.inr rfl, (by decide : 0x196 < 0x200)⟩

theorem res_2_a : Statement .res_2_a := ⟨.inr rfl, (by decide : 0x197 < 0x200)⟩

theorem res_3_b : Statement .res_3_b := ⟨.inr rfl, (by decide : 0x198 < 0x200)⟩

theorem res_3_c : Statement .res_3_c := ⟨.inr rfl, (by decide : 0x199 < 0x200)⟩

theorem res_3_d : Statement .res_3_d := ⟨.inr rfl, (by decide : 0x19A < 0x200)⟩

theorem res_3_e : Statement .res_3_e := ⟨.inr rfl, (by decide : 0x19B < 0x200)⟩

theorem res_3_h : Statement .res_3_h := ⟨.inr rfl, (by decide : 0x19C < 0x200)⟩

theorem res_3_l : Statement .res_3_l := ⟨.inr rfl, (by decide : 0x19D < 0x200)⟩

theorem res_3_atHL : Statement .res_3_atHL := ⟨.inr rfl, (by decide : 0x19E < 0x200)⟩

theorem res_3_a : Statement .res_3_a := ⟨.inr rfl, (by decide : 0x19F < 0x200)⟩

theorem res_4_b : Statement .res_4_b := ⟨.inr rfl, (by decide : 0x1A0 < 0x200)⟩

theorem res_4_c : Statement .res_4_c := ⟨.inr rfl, (by decide : 0x1A1 < 0x200)⟩

theorem res_4_d : Statement .res_4_d := ⟨.inr rfl, (by decide : 0x1A2 < 0x200)⟩

theorem res_4_e : Statement .res_4_e := ⟨.inr rfl, (by decide : 0x1A3 < 0x200)⟩

theorem res_4_h : Statement .res_4_h := ⟨.inr rfl, (by decide : 0x1A4 < 0x200)⟩

theorem res_4_l : Statement .res_4_l := ⟨.inr rfl, (by decide : 0x1A5 < 0x200)⟩

theorem res_4_atHL : Statement .res_4_atHL := ⟨.inr rfl, (by decide : 0x1A6 < 0x200)⟩

theorem res_4_a : Statement .res_4_a := ⟨.inr rfl, (by decide : 0x1A7 < 0x200)⟩

theorem res_5_b : Statement .res_5_b := ⟨.inr rfl, (by decide : 0x1A8 < 0x200)⟩

theorem res_5_c : Statement .res_5_c := ⟨.inr rfl, (by decide : 0x1A9 < 0x200)⟩

theorem res_5_d : Statement .res_5_d := ⟨.inr rfl, (by decide : 0x1AA < 0x200)⟩

theorem res_5_e : Statement .res_5_e := ⟨.inr rfl, (by decide : 0x1AB < 0x200)⟩

theorem res_5_h : Statement .res_5_h := ⟨.inr rfl, (by decide : 0x1AC < 0x200)⟩

theorem res_5_l : Statement .res_5_l := ⟨.inr rfl, (by decide : 0x1AD < 0x200)⟩

theorem res_5_atHL : Statement .res_5_atHL := ⟨.inr rfl, (by decide : 0x1AE < 0x200)⟩

theorem res_5_a : Statement .res_5_a := ⟨.inr rfl, (by decide : 0x1AF < 0x200)⟩

theorem res_6_b : Statement .res_6_b := ⟨.inr rfl, (by decide : 0x1B0 < 0x200)⟩

theorem res_6_c : Statement .res_6_c := ⟨.inr rfl, (by decide : 0x1B1 < 0x200)⟩

theorem res_6_d : Statement .res_6_d := ⟨.inr rfl, (by decide : 0x1B2 < 0x200)⟩

theorem res_6_e : Statement .res_6_e := ⟨.inr rfl, (by decide : 0x1B3 < 0x200)⟩

theorem res_6_h : Statement .res_6_h := ⟨.inr rfl, (by decide : 0x1B4 < 0x200)⟩

theorem res_6_l : Statement .res_6_l := ⟨.inr rfl, (by decide : 0x1B5 < 0x200)⟩

theorem res_6_atHL : Statement .res_6_atHL := ⟨.inr rfl, (by decide : 0x1B6 < 0x200)⟩

theorem res_6_a : Statement .res_6_a := ⟨.inr rfl, (by decide : 0x1B7 < 0x200)⟩

theorem res_7_b : Statement .res_7_b := ⟨.inr rfl, (by decide : 0x1B8 < 0x200)⟩

theorem res_7_c : Statement .res_7_c := ⟨.inr rfl, (by decide : 0x1B9 < 0x200)⟩

theorem res_7_d : Statement .res_7_d := ⟨.inr rfl, (by decide : 0x1BA < 0x200)⟩

theorem res_7_e : Statement .res_7_e := ⟨.inr rfl, (by decide : 0x1BB < 0x200)⟩

theorem res_7_h : Statement .res_7_h := ⟨.inr rfl, (by decide : 0x1BC < 0x200)⟩

theorem res_7_l : Statement .res_7_l := ⟨.inr rfl, (by decide : 0x1BD < 0x200)⟩

theorem res_7_atHL : Statement .res_7_atHL := ⟨.inr rfl, (by decide : 0x1BE < 0x200)⟩

theorem res_7_a : Statement .res_7_a := ⟨.inr rfl, (by decide : 0x1BF < 0x200)⟩

theorem set_0_b : Statement .set_0_b := ⟨.inr rfl, (by decide : 0x1C0 < 0x200)⟩

theorem set_0_c : Statement .set_0_c := ⟨.inr rfl, (by decide : 0x1C1 < 0x200)⟩

theorem set_0_d : Statement .set_0_d := ⟨.inr rfl, (by decide : 0x1C2 < 0x200)⟩

theorem set_0_e : Statement .set_0_e := ⟨.inr rfl, (by decide : 0x1C3 < 0x200)⟩

theorem set_0_h : Statement .set_0_h := ⟨.inr rfl, (by decide : 0x1C4 < 0x200)⟩

theorem set_0_l : Statement .set_0_l := ⟨.inr rfl, (by decide : 0x1C5 < 0x200)⟩

theorem set_0_atHL : Statement .set_0_atHL := ⟨.inr rfl, (by decide : 0x1C6 < 0x200)⟩

theorem set_0_a : Statement .set_0_a := ⟨.inr rfl, (by decide : 0x1C7 < 0x200)⟩

theorem set_1_b : Statement .set_1_b := ⟨.inr rfl, (by decide : 0x1C8 < 0x200)⟩

theorem set_1_c : Statement .set_1_c := ⟨.inr rfl, (by decide : 0x1C9 < 0x200)⟩

theorem set_1_d : Statement .set_1_d := ⟨.inr rfl, (by decide : 0x1CA < 0x200)⟩

theorem set_1_e : Statement .set_1_e := ⟨.inr rfl, (by decide : 0x1CB < 0x200)⟩

theorem set_1_h : Statement .set_1_h := ⟨.inr rfl, (by decide : 0x1CC < 0x200)⟩

theorem set_1_l : Statement .set_1_l := ⟨.inr rfl, (by decide : 0x1CD < 0x200)⟩

theorem set_1_atHL : Statement .set_1_atHL := ⟨.inr rfl, (by decide : 0x1CE < 0x200)⟩

theorem set_1_a : Statement .set_1_a := ⟨.inr rfl, (by decide : 0x1CF < 0x200)⟩

theorem set_2_b : Statement .set_2_b := ⟨.inr rfl, (by decide : 0x1D0 < 0x200)⟩

theorem set_2_c : Statement .set_2_c := ⟨.inr rfl, (by decide : 0x1D1 < 0x200)⟩

theorem set_2_d : Statement .set_2_d := ⟨.inr rfl, (by decide : 0x1D2 < 0x200)⟩

theorem set_2_e : Statement .set_2_e := ⟨.inr rfl, (by decide : 0x1D3 < 0x200)⟩

theorem set_2_h : Statement .set_2_h := ⟨.inr rfl, (by decide : 0x1D4 < 0x200)⟩

theorem set_2_l : Statement .set_2_l := ⟨.inr rfl, (by decide : 0x1D5 < 0x200)⟩

theorem set_2_atHL : Statement .set_2_atHL := ⟨.inr rfl, (by decide : 0x1D6 < 0x200)⟩

theorem set_2_a : Statement .set_2_a := ⟨.inr rfl, (by decide : 0x1D7 < 0x200)⟩

theorem set_3_b : Statement .set_3_b := ⟨.inr rfl, (by decide : 0x1D8 < 0x200)⟩

theorem set_3_c : Statement .set_3_c := ⟨.inr rfl, (by decide : 0x1D9 < 0x200)⟩

theorem set_3_d : Statement .set_3_d := ⟨.inr rfl, (by decide : 0x1DA < 0x200)⟩

theorem set_3_e : Statement .set_3_e := ⟨.inr rfl, (by decide : 0x1DB < 0x200)⟩

theorem set_3_h : Statement .set_3_h := ⟨.inr rfl, (by decide : 0x1DC < 0x200)⟩

theorem set_3_l : Statement .set_3_l := ⟨.inr rfl, (by decide : 0x1DD < 0x200)⟩

theorem set_3_atHL : Statement .set_3_atHL := ⟨.inr rfl, (by decide : 0x1DE < 0x200)⟩

theorem set_3_a : Statement .set_3_a := ⟨.inr rfl, (by decide : 0x1DF < 0x200)⟩

theorem set_4_b : Statement .set_4_b := ⟨.inr rfl, (by decide : 0x1E0 < 0x200)⟩

theorem set_4_c : Statement .set_4_c := ⟨.inr rfl, (by decide : 0x1E1 < 0x200)⟩

theorem set_4_d : Statement .set_4_d := ⟨.inr rfl, (by decide : 0x1E2 < 0x200)⟩

theorem set_4_e : Statement .set_4_e := ⟨.inr rfl, (by decide : 0x1E3 < 0x200)⟩

theorem set_4_h : Statement .set_4_h := ⟨.inr rfl, (by decide : 0x1E4 < 0x200)⟩

theorem set_4_l : Statement .set_4_l := ⟨.inr rfl, (by decide : 0x1E5 < 0x200)⟩

theorem set_4_atHL : Statement .set_4_atHL := ⟨.inr rfl, (by decide : 0x1E6 < 0x200)⟩

theorem set_4_a : Statement .set_4_a := ⟨.inr rfl, (by decide : 0x1E7 < 0x200)⟩

theorem set_5_b : Statement .set_5_b := ⟨.inr rfl, (by decide : 0x1E8 < 0x200)⟩

theorem set_5_c : Statement .set_5_c := ⟨.inr rfl, (by decide : 0x1E9 < 0x200)⟩

theorem set_5_d : Statement .set_5_d := ⟨.inr rfl, (by decide : 0x1EA < 0x200)⟩

theorem set_5_e : Statement .set_5_e := ⟨.inr rfl, (by decide : 0x1EB < 0x200)⟩

theorem set_5_h : Statement .set_5_h := ⟨.inr rfl, (by decide : 0x1EC < 0x200)⟩

theorem set_5_l : Statement .set_5_l := ⟨.inr rfl, (by decide : 0x1ED < 0x200)⟩

theorem set_5_atHL : Statement .set_5_atHL := ⟨.inr rfl, (by decide : 0x1EE < 0x200)⟩

theorem set_5_a : Statement .set_5_a := ⟨.inr rfl, (by decide : 0x1EF < 0x200)⟩

theorem set_6_b : Statement .set_6_b := ⟨.inr rfl, (by decide : 0x1F0 < 0x200)⟩

theorem set_6_c : Statement .set_6_c := ⟨.inr rfl, (by decide : 0x1F1 < 0x200)⟩

theorem set_6_d : Statement .set_6_d := ⟨.inr rfl, (by decide : 0x1F2 < 0x200)⟩

theorem set_6_e : Statement .set_6_e := ⟨.inr rfl, (by decide : 0x1F3 < 0x200)⟩

theorem set_6_h : Statement .set_6_h := ⟨.inr rfl, (by decide : 0x1F4 < 0x200)⟩

theorem set_6_l : Statement .set_6_l := ⟨.inr rfl, (by decide : 0x1F5 < 0x200)⟩

theorem set_6_atHL : Statement .set_6_atHL := ⟨.inr rfl, (by decide : 0x1F6 < 0x200)⟩

theorem set_6_a : Statement .set_6_a := ⟨.inr rfl, (by decide : 0x1F7 < 0x200)⟩

theorem set_7_b : Statement .set_7_b := ⟨.inr rfl, (by decide : 0x1F8 < 0x200)⟩

theorem set_7_c : Statement .set_7_c := ⟨.inr rfl, (by decide : 0x1F9 < 0x200)⟩

theorem set_7_d : Statement .set_7_d := ⟨.inr rfl, (by decide : 0x1FA < 0x200)⟩

theorem set_7_e : Statement .set_7_e := ⟨.inr rfl, (by decide : 0x1FB < 0x200)⟩

theorem set_7_h : Statement .set_7_h := ⟨.inr rfl, (by decide : 0x1FC < 0x200)⟩

theorem set_7_l : Statement .set_7_l := ⟨.inr rfl, (by decide : 0x1FD < 0x200)⟩

theorem set_7_atHL : Statement .set_7_atHL := ⟨.inr rfl, (by decide : 0x1FE < 0x200)⟩

theorem set_7_a : Statement .set_7_a := ⟨.inr rfl, (by decide : 0x1FF < 0x200)⟩

end Sys2Proof.Laws.OpcodeBytes
end

