-- ==== Sys2Proof/Laws/Step.lean ====
section
/-! SUPPORT. What a step can do, said once: it idles, or it runs the fetched instruction; and what an instruction that answers a
next state has done to the state. -/

namespace Sys2Proof.Machine

/-- A halted step (R381). -/
theorem step_idles {s : State} (h : Idles s) : step s = .next (haltedStep (beginStep s)) := by
  obtain ⟨h1, h2, h3, h4⟩ := h
  unfold step
  cases hc : s.cart.image with
  | none => exact absurd hc h1
  | some im => simp only [h2, h3, h4, Bool.false_eq_true, if_false, if_true]

/-- A step that fetches runs the instruction at PC (R380). -/
theorem step_fetches {s t : State} (h : Fetches s) (he : exec (fetchInstr (beginStep s)) (fetched (beginStep s)) = .next t) :
    step s = .next (afterInstr t) := by
  obtain ⟨h1, h2, h3, h4⟩ := h
  unfold step
  cases hc : s.cart.image with
  | none => exact absurd hc h1
  | some im => simp only [h2, h3, h4, he, Bool.false_eq_true, if_false]

/-- Everything a step that answers a next state can have done. -/
theorem step_cases {s t : State} (h : step s = .next t) :
    (Idles s ∧ t = haltedStep (beginStep s)) ∨
    (Fetches s ∧ ∃ u, exec (fetchInstr (beginStep s)) (fetched (beginStep s)) = .next u ∧ t = afterInstr u) := by
  unfold step at h
  cases hc : s.cart.image with
  | none => rw [hc] at h; cases h
  | some im =>
    rw [hc] at h
    cases hf : s.sys.fault with
    | some e => rw [hf] at h; cases h
    | none =>
      rw [hf] at h
      cases hs : s.cpu.stopped with
      | true => simp [hs] at h
      | false =>
        cases hh : s.cpu.halted with
        | true =>
          simp only [hs, hh, Bool.false_eq_true, if_false, if_true, Host.Outcome.next.injEq] at h
          exact .inl ⟨⟨by simp [hc], hf, hs, hh⟩, h.symm⟩
        | false =>
          refine .inr ⟨⟨by simp [hc], hf, hs, hh⟩, ?_⟩
          simp only [hs, hh, Bool.false_eq_true, if_false] at h
          cases he : exec (fetchInstr (beginStep s)) (fetched (beginStep s)) with
          | next u => rw [he] at h; exact ⟨u, rfl, (Host.Outcome.next.inj h).symm⟩
          | fault e => rw [he] at h; cases h
          | refused r => rw [he] at h; cases h

/-- An illegal opcode's meaning (R296, R310). -/
theorem exec_illegal (k : IllegalOp) (s : State) : exec (.illegal k) s = .next (raiseDecodeError k.byte s) := by cases k <;> rfl

/-- What an instruction that answered a next state can have done: it raised the FatalDecodeError, or it made writes and changed
the processor's registers, at a cost of its row. -/
theorem exec_next_cases {i : Instr} {s t : State} (h : exec i s = .next t) :
    (∃ k, i = .illegal k ∧ t = raiseDecodeError k.byte s) ∨
    (∃ ws c n, t = ((stores s ws).withCpu c).setCycles n ∧ (s.cpu.f &&& 0x0F = 0 → c.f &&& 0x0F = 0) ∧ Charges s.params n ∧
      (i ≠ .prefix_cb → ws.map Prod.fst = storeAddrsOf i s ∧ c.ime = imeAfter i s)) := by
  by_cases hk : ∃ k, i = .illegal k
  · obtain ⟨k, rfl⟩ := hk
    rw [exec_illegal] at h
    exact .inl ⟨k, rfl, (Host.Outcome.next.inj h).symm⟩
  · refine .inr ?_
    by_cases hp : i = .prefix_cb
    · subst hp
      obtain ⟨a, ws, c, hu, -, hf, -⟩ := extendedOp_does (fetchByte s) (advancePc s)
      refine ⟨ws, c, _, ?_, hf, ⟨0x100 + (fetchByte s).toNat, hasCost_extended _, .inl rfl⟩, fun h => absurd rfl h⟩
      have h' := (Host.Outcome.next.inj h).symm
      rw [h', hu, show advancePc s = s.withCpu (advancePc s).cpu from rfl, stores_withCpu]
      simp only [withCpu_params, (stores_frame s ws).2.2.1]
      rfl
    · obtain ⟨u, n, he, ⟨ws, c, rfl, ha, hf, hi⟩, hc⟩ := exec_completes i s hp (fun k h => hk ⟨k, h⟩)
      exact ⟨ws, c, n, (Host.Outcome.next.inj (he.symm.trans h)).symm, hf, hc, fun _ => ⟨ha, hi⟩⟩

end Sys2Proof.Machine
end

