-- ==== Sys2Proof/Tests/Slice0.lean ====
section
/-! SUPPORT. Tests. The expected results are those of spec/95_test_vectors.md and the encodings of spec/30_encoding.md; each test's
comment names its row. The last part gives a witness for every obligation that has hypotheses. -/

namespace Sys2Proof.Tests

open Sys2Proof.Machine

set_option Elab.async false

/-! ## Well-formedness and the decoder's refusals -/

/-- R121: the prefix is never an instruction by itself. -/
theorem test_wellFormed_refuses_bare_prefix : ¬ WellFormed .prefix_cb := by decide

theorem test_wellFormed_accepts_extended : WellFormed .rlc_b := by decide

/-- R120: no byte, or operand bytes missing, is refused by name. -/
theorem test_decode_refuses_missing_bytes :
    decode [] = .error .noBytes ∧ decode [0x3E] = .error (.missingOperand 0x3E) ∧ decode [0xC3, 0x50] = .error (.missingOperand 0xC3) := by
  decide

/-! ## Decoding: every row of the opcode table, its word written from the encoding pattern of the row (R121) -/

theorem test_decode_primary_0 :
    [
      [0b00000000], [0b00000001, 0x34, 0x12], [0b00000010], [0b00000011], [0b00000100], [0b00000101], [0b00000110, 0x34],
      [0b00000111], [0b00001000, 0x34, 0x12], [0b00001001], [0b00001010], [0b00001011], [0b00001100], [0b00001101],
      [0b00001110, 0x34], [0b00001111]
    ].map decode =
    [
      .nop, .ld_bc_nn 0x1234, .ld_atBC_a, .inc_bc, .inc_b, .dec_b, .ld_b_n 0x34, .rlca, .ld_atnn_sp 0x1234, .add_hl_bc,
      .ld_a_atBC, .dec_bc, .inc_c, .dec_c, .ld_c_n 0x34, .rrca
    ].map Except.ok := by
  decide +kernel

theorem test_decode_primary_1 :
    [
      [0b00010000], [0b00010001, 0x34, 0x12], [0b00010010], [0b00010011], [0b00010100], [0b00010101], [0b00010110, 0x34],
      [0b00010111], [0b00011000, 0x34], [0b00011001], [0b00011010], [0b00011011], [0b00011100], [0b00011101],
      [0b00011110, 0x34], [0b00011111]
    ].map decode =
    [
      .stop, .ld_de_nn 0x1234, .ld_atDE_a, .inc_de, .inc_d, .dec_d, .ld_d_n 0x34, .rla, .jr_e 0x34, .add_hl_de, .ld_a_atDE,
      .dec_de, .inc_e, .dec_e, .ld_e_n 0x34, .rra
    ].map Except.ok := by
  decide +kernel

theorem test_decode_primary_2 :
    [
      [0b00100000, 0x34], [0b00100001, 0x34, 0x12], [0b00100010], [0b00100011], [0b00100100], [0b00100101], [0b00100110, 0x34],
      [0b00100111], [0b00101000, 0x34], [0b00101001], [0b00101010], [0b00101011], [0b00101100], [0b00101101],
      [0b00101110, 0x34], [0b00101111]
    ].map decode =
    [
      .jr_nz_e 0x34, .ld_hl_nn 0x1234, .ld_atHLi_a, .inc_hl, .inc_h, .dec_h, .ld_h_n 0x34, .daa, .jr_z_e 0x34, .add_hl_hl,
      .ld_a_atHLi, .dec_hl, .inc_l, .dec_l, .ld_l_n 0x34, .cpl
    ].map Except.ok := by
  decide +kernel

theorem test_decode_primary_3 :
    [
      [0b00110000, 0x34], [0b00110001, 0x34, 0x12], [0b00110010], [0b00110011], [0b00110100], [0b00110101], [0b00110110, 0x34],
      [0b00110111], [0b00111000, 0x34], [0b00111001], [0b00111010], [0b00111011], [0b00111100], [0b00111101],
      [0b00111110, 0x34], [0b00111111]
    ].map decode =
    [
      .jr_nc_e 0x34, .ld_sp_nn 0x1234, .ld_atHLd_a, .inc_sp, .inc_atHL, .dec_atHL, .ld_atHL_n 0x34, .scf, .jr_c_e 0x34,
      .add_hl_sp, .ld_a_atHLd, .dec_sp, .inc_a, .dec_a, .ld_a_n 0x34, .ccf
    ].map Except.ok := by
  decide +kernel

theorem test_decode_primary_4 :
    [
      [0b01000000], [0b01000001], [0b01000010], [0b01000011], [0b01000100], [0b01000101], [0b01000110], [0b01000111],
      [0b01001000], [0b01001001], [0b01001010], [0b01001011], [0b01001100], [0b01001101], [0b01001110], [0b01001111]
    ].map decode =
    [
      .ld_b_b, .ld_b_c, .ld_b_d, .ld_b_e, .ld_b_h, .ld_b_l, .ld_b_atHL, .ld_b_a, .ld_c_b, .ld_c_c, .ld_c_d, .ld_c_e, .ld_c_h,
      .ld_c_l, .ld_c_atHL, .ld_c_a
    ].map Except.ok := by
  decide +kernel

theorem test_decode_primary_5 :
    [
      [0b01010000], [0b01010001], [0b01010010], [0b01010011], [0b01010100], [0b01010101], [0b01010110], [0b01010111],
      [0b01011000], [0b01011001], [0b01011010], [0b01011011], [0b01011100], [0b01011101], [0b01011110], [0b01011111]
    ].map decode =
    [
      .ld_d_b, .ld_d_c, .ld_d_d, .ld_d_e, .ld_d_h, .ld_d_l, .ld_d_atHL, .ld_d_a, .ld_e_b, .ld_e_c, .ld_e_d, .ld_e_e, .ld_e_h,
      .ld_e_l, .ld_e_atHL, .ld_e_a
    ].map Except.ok := by
  decide +kernel

theorem test_decode_primary_6 :
    [
      [0b01100000], [0b01100001], [0b01100010], [0b01100011], [0b01100100], [0b01100101], [0b01100110], [0b01100111],
      [0b01101000], [0b01101001], [0b01101010], [0b01101011], [0b01101100], [0b01101101], [0b01101110], [0b01101111]
    ].map decode =
    [
      .ld_h_b, .ld_h_c, .ld_h_d, .ld_h_e, .ld_h_h, .ld_h_l, .ld_h_atHL, .ld_h_a, .ld_l_b, .ld_l_c, .ld_l_d, .ld_l_e, .ld_l_h,
      .ld_l_l, .ld_l_atHL, .ld_l_a
    ].map Except.ok := by
  decide +kernel

theorem test_decode_primary_7 :
    [
      [0b01110000], [0b01110001], [0b01110010], [0b01110011], [0b01110100], [0b01110101], [0b01110110], [0b01110111],
      [0b01111000], [0b01111001], [0b01111010], [0b01111011], [0b01111100], [0b01111101], [0b01111110], [0b01111111]
    ].map decode =
    [
      .ld_atHL_b, .ld_atHL_c, .ld_atHL_d, .ld_atHL_e, .ld_atHL_h, .ld_atHL_l, .halt, .ld_atHL_a, .ld_a_b, .ld_a_c, .ld_a_d,
      .ld_a_e, .ld_a_h, .ld_a_l, .ld_a_atHL, .ld_a_a
    ].map Except.ok := by
  decide +kernel

theorem test_decode_primary_8 :
    [
      [0b10000000], [0b10000001], [0b10000010], [0b10000011], [0b10000100], [0b10000101], [0b10000110], [0b10000111],
      [0b10001000], [0b10001001], [0b10001010], [0b10001011], [0b10001100], [0b10001101], [0b10001110], [0b10001111]
    ].map decode =
    [
      .add_a_b, .add_a_c, .add_a_d, .add_a_e, .add_a_h, .add_a_l, .add_a_atHL, .add_a_a, .adc_a_b, .adc_a_c, .adc_a_d,
      .adc_a_e, .adc_a_h, .adc_a_l, .adc_a_atHL, .adc_a_a
    ].map Except.ok := by
  decide +kernel

theorem test_decode_primary_9 :
    [
      [0b10010000], [0b10010001], [0b10010010], [0b10010011], [0b10010100], [0b10010101], [0b10010110], [0b10010111],
      [0b10011000], [0b10011001], [0b10011010], [0b10011011], [0b10011100], [0b10011101], [0b10011110], [0b10011111]
    ].map decode =
    [
      .sub_a_b, .sub_a_c, .sub_a_d, .sub_a_e, .sub_a_h, .sub_a_l, .sub_a_atHL, .sub_a_a, .sbc_a_b, .sbc_a_c, .sbc_a_d,
      .sbc_a_e, .sbc_a_h, .sbc_a_l, .sbc_a_atHL, .sbc_a_a
    ].map Except.ok := by
  decide +kernel

theorem test_decode_primary_A :
    [
      [0b10100000], [0b10100001], [0b10100010], [0b10100011], [0b10100100], [0b10100101], [0b10100110], [0b10100111],
      [0b10101000], [0b10101001], [0b10101010], [0b10101011], [0b10101100], [0b10101101], [0b10101110], [0b10101111]
    ].map decode =
    [
      .and_a_b, .and_a_c, .and_a_d, .and_a_e, .and_a_h, .and_a_l, .and_a_atHL, .and_a_a, .xor_a_b, .xor_a_c, .xor_a_d,
      .xor_a_e, .xor_a_h, .xor_a_l, .xor_a_atHL, .xor_a_a
    ].map Except.ok := by
  decide +kernel

theorem test_decode_primary_B :
    [
      [0b10110000], [0b10110001], [0b10110010], [0b10110011], [0b10110100], [0b10110101], [0b10110110], [0b10110111],
      [0b10111000], [0b10111001], [0b10111010], [0b10111011], [0b10111100], [0b10111101], [0b10111110], [0b10111111]
    ].map decode =
    [
      .or_a_b, .or_a_c, .or_a_d, .or_a_e, .or_a_h, .or_a_l, .or_a_atHL, .or_a_a, .cp_a_b, .cp_a_c, .cp_a_d, .cp_a_e, .cp_a_h,
      .cp_a_l, .cp_a_atHL, .cp_a_a
    ].map Except.ok := by
  decide +kernel

theorem test_decode_primary_C :
    [
      [0b11000000], [0b11000001], [0b11000010, 0x34, 0x12], [0b11000011, 0x34, 0x12], [0b11000100, 0x34, 0x12], [0b11000101],
      [0b11000110, 0x34], [0b11000111], [0b11001000], [0b11001001], [0b11001010, 0x34, 0x12], [0b11001011],
      [0b11001100, 0x34, 0x12], [0b11001101, 0x34, 0x12], [0b11001110, 0x34], [0b11001111]
    ].map decode =
    [
      .ret_nz, .pop_bc, .jp_nz_nn 0x1234, .jp_nn 0x1234, .call_nz_nn 0x1234, .push_bc, .add_a_n 0x34, .rst_00, .ret_z, .ret,
      .jp_z_nn 0x1234, .prefix_cb, .call_z_nn 0x1234, .call_nn 0x1234, .adc_a_n 0x34, .rst_08
    ].map Except.ok := by
  decide +kernel

theorem test_decode_primary_D :
    [
      [0b11010000], [0b11010001], [0b11010010, 0x34, 0x12], [0b11010011], [0b11010100, 0x34, 0x12], [0b11010101],
      [0b11010110, 0x34], [0b11010111], [0b11011000], [0b11011001], [0b11011010, 0x34, 0x12], [0b11011011],
      [0b11011100, 0x34, 0x12], [0b11011101], [0b11011110, 0x34], [0b11011111]
    ].map decode =
    [
      .ret_nc, .pop_de, .jp_nc_nn 0x1234, .illegal_d3, .call_nc_nn 0x1234, .push_de, .sub_a_n 0x34, .rst_10, .ret_c, .reti,
      .jp_c_nn 0x1234, .illegal_db, .call_c_nn 0x1234, .illegal_dd, .sbc_a_n 0x34, .rst_18
    ].map Except.ok := by
  decide +kernel

theorem test_decode_primary_E :
    [
      [0b11100000, 0x34], [0b11100001], [0b11100010], [0b11100011], [0b11100100], [0b11100101], [0b11100110, 0x34],
      [0b11100111], [0b11101000, 0x34], [0b11101001], [0b11101010, 0x34, 0x12], [0b11101011], [0b11101100], [0b11101101],
      [0b11101110, 0x34], [0b11101111]
    ].map decode =
    [
      .ldh_atn_a 0x34, .pop_hl, .ld_atC_a, .illegal_e3, .illegal_e4, .push_hl, .and_a_n 0x34, .rst_20, .add_sp_e 0x34,
      .jp_atHL, .ld_atnn_a 0x1234, .illegal_eb, .illegal_ec, .illegal_ed, .xor_a_n 0x34, .rst_28
    ].map Except.ok := by
  decide +kernel

theorem test_decode_primary_F :
    [
      [0b11110000, 0x34], [0b11110001], [0b11110010], [0b11110011], [0b11110100], [0b11110101], [0b11110110, 0x34],
      [0b11110111], [0b11111000, 0x34], [0b11111001], [0b11111010, 0x34, 0x12], [0b11111011], [0b11111100], [0b11111101],
      [0b11111110, 0x34], [0b11111111]
    ].map decode =
    [
      .ldh_a_atn 0x34, .pop_af, .ld_a_atC, .di, .illegal_f4, .push_af, .or_a_n 0x34, .rst_30, .ld_hl_sp_e 0x34, .ld_sp_hl,
      .ld_a_atnn 0x1234, .ei, .illegal_fc, .illegal_fd, .cp_a_n 0x34, .rst_38
    ].map Except.ok := by
  decide +kernel

theorem test_decode_extended_0 :
    [
      [0b11001011, 0b00000000], [0b11001011, 0b00000001], [0b11001011, 0b00000010], [0b11001011, 0b00000011],
      [0b11001011, 0b00000100], [0b11001011, 0b00000101], [0b11001011, 0b00000110], [0b11001011, 0b00000111],
      [0b11001011, 0b00001000], [0b11001011, 0b00001001], [0b11001011, 0b00001010], [0b11001011, 0b00001011],
      [0b11001011, 0b00001100], [0b11001011, 0b00001101], [0b11001011, 0b00001110], [0b11001011, 0b00001111]
    ].map decode =
    [
      .rlc_b, .rlc_c, .rlc_d, .rlc_e, .rlc_h, .rlc_l, .rlc_atHL, .rlc_a, .rrc_b, .rrc_c, .rrc_d, .rrc_e, .rrc_h, .rrc_l,
      .rrc_atHL, .rrc_a
    ].map Except.ok := by
  decide +kernel

theorem test_decode_extended_1 :
    [
      [0b11001011, 0b00010000], [0b11001011, 0b00010001], [0b11001011, 0b00010010], [0b11001011, 0b00010011],
      [0b11001011, 0b00010100], [0b11001011, 0b00010101], [0b11001011, 0b00010110], [0b11001011, 0b00010111],
      [0b11001011, 0b00011000], [0b11001011, 0b00011001], [0b11001011, 0b00011010], [0b11001011, 0b00011011],
      [0b11001011, 0b00011100], [0b11001011, 0b00011101], [0b11001011, 0b00011110], [0b11001011, 0b00011111]
    ].map decode =
    [
      .rl_b, .rl_c, .rl_d, .rl_e, .rl_h, .rl_l, .rl_atHL, .rl_a, .rr_b, .rr_c, .rr_d, .rr_e, .rr_h, .rr_l, .rr_atHL, .rr_a
    ].map Except.ok := by
  decide +kernel

theorem test_decode_extended_2 :
    [
      [0b11001011, 0b00100000], [0b11001011, 0b00100001], [0b11001011, 0b00100010], [0b11001011, 0b00100011],
      [0b11001011, 0b00100100], [0b11001011, 0b00100101], [0b11001011, 0b00100110], [0b11001011, 0b00100111],
      [0b11001011, 0b00101000], [0b11001011, 0b00101001], [0b11001011, 0b00101010], [0b11001011, 0b00101011],
      [0b11001011, 0b00101100], [0b11001011, 0b00101101], [0b11001011, 0b00101110], [0b11001011, 0b00101111]
    ].map decode =
    [
      .sla_b, .sla_c, .sla_d, .sla_e, .sla_h, .sla_l, .sla_atHL, .sla_a, .sra_b, .sra_c, .sra_d, .sra_e, .sra_h, .sra_l,
      .sra_atHL, .sra_a
    ].map Except.ok := by
  decide +kernel

theorem test_decode_extended_3 :
    [
      [0b11001011, 0b00110000], [0b11001011, 0b00110001], [0b11001011, 0b00110010], [0b11001011, 0b00110011],
      [0b11001011, 0b00110100], [0b11001011, 0b00110101], [0b11001011, 0b00110110], [0b11001011, 0b00110111],
      [0b11001011, 0b00111000], [0b11001011, 0b00111001], [0b11001011, 0b00111010], [0b11001011, 0b00111011],
      [0b11001011, 0b00111100], [0b11001011, 0b00111101], [0b11001011, 0b00111110], [0b11001011, 0b00111111]
    ].map decode =
    [
      .swap_b, .swap_c, .swap_d, .swap_e, .swap_h, .swap_l, .swap_atHL, .swap_a, .srl_b, .srl_c, .srl_d, .srl_e, .srl_h,
      .srl_l, .srl_atHL, .srl_a
    ].map Except.ok := by
  decide +kernel

theorem test_decode_extended_4 :
    [
      [0b11001011, 0b01000000], [0b11001011, 0b01000001], [0b11001011, 0b01000010], [0b11001011, 0b01000011],
      [0b11001011, 0b01000100], [0b11001011, 0b01000101], [0b11001011, 0b01000110], [0b11001011, 0b01000111],
      [0b11001011, 0b01001000], [0b11001011, 0b01001001], [0b11001011, 0b01001010], [0b11001011, 0b01001011],
      [0b11001011, 0b01001100], [0b11001011, 0b01001101], [0b11001011, 0b01001110], [0b11001011, 0b01001111]
    ].map decode =
    [
      .bit_0_b, .bit_0_c, .bit_0_d, .bit_0_e, .bit_0_h, .bit_0_l, .bit_0_atHL, .bit_0_a, .bit_1_b, .bit_1_c, .bit_1_d,
      .bit_1_e, .bit_1_h, .bit_1_l, .bit_1_atHL, .bit_1_a
    ].map Except.ok := by
  decide +kernel

theorem test_decode_extended_5 :
    [
      [0b11001011, 0b01010000], [0b11001011, 0b01010001], [0b11001011, 0b01010010], [0b11001011, 0b01010011],
      [0b11001011, 0b01010100], [0b11001011, 0b01010101], [0b11001011, 0b01010110], [0b11001011, 0b01010111],
      [0b11001011, 0b01011000], [0b11001011, 0b01011001], [0b11001011, 0b01011010], [0b11001011, 0b01011011],
      [0b11001011, 0b01011100], [0b11001011, 0b01011101], [0b11001011, 0b01011110], [0b11001011, 0b01011111]
    ].map decode =
    [
      .bit_2_b, .bit_2_c, .bit_2_d, .bit_2_e, .bit_2_h, .bit_2_l, .bit_2_atHL, .bit_2_a, .bit_3_b, .bit_3_c, .bit_3_d,
      .bit_3_e, .bit_3_h, .bit_3_l, .bit_3_atHL, .bit_3_a
    ].map Except.ok := by
  decide +kernel

theorem test_decode_extended_6 :
    [
      [0b11001011, 0b01100000], [0b11001011, 0b01100001], [0b11001011, 0b01100010], [0b11001011, 0b01100011],
      [0b11001011, 0b01100100], [0b11001011, 0b01100101], [0b11001011, 0b01100110], [0b11001011, 0b01100111],
      [0b11001011, 0b01101000], [0b11001011, 0b01101001], [0b11001011, 0b01101010], [0b11001011, 0b01101011],
      [0b11001011, 0b01101100], [0b11001011, 0b01101101], [0b11001011, 0b01101110], [0b11001011, 0b01101111]
    ].map decode =
    [
      .bit_4_b, .bit_4_c, .bit_4_d, .bit_4_e, .bit_4_h, .bit_4_l, .bit_4_atHL, .bit_4_a, .bit_5_b, .bit_5_c, .bit_5_d,
      .bit_5_e, .bit_5_h, .bit_5_l, .bit_5_atHL, .bit_5_a
    ].map Except.ok := by
  decide +kernel

theorem test_decode_extended_7 :
    [
      [0b11001011, 0b01110000], [0b11001011, 0b01110001], [0b11001011, 0b01110010], [0b11001011, 0b01110011],
      [0b11001011, 0b01110100], [0b11001011, 0b01110101], [0b11001011, 0b01110110], [0b11001011, 0b01110111],
      [0b11001011, 0b01111000], [0b11001011, 0b01111001], [0b11001011, 0b01111010], [0b11001011, 0b01111011],
      [0b11001011, 0b01111100], [0b11001011, 0b01111101], [0b11001011, 0b01111110], [0b11001011, 0b01111111]
    ].map decode =
    [
      .bit_6_b, .bit_6_c, .bit_6_d, .bit_6_e, .bit_6_h, .bit_6_l, .bit_6_atHL, .bit_6_a, .bit_7_b, .bit_7_c, .bit_7_d,
      .bit_7_e, .bit_7_h, .bit_7_l, .bit_7_atHL, .bit_7_a
    ].map Except.ok := by
  decide +kernel

theorem test_decode_extended_8 :
    [
      [0b11001011, 0b10000000], [0b11001011, 0b10000001], [0b11001011, 0b10000010], [0b11001011, 0b10000011],
      [0b11001011, 0b10000100], [0b11001011, 0b10000101], [0b11001011, 0b10000110], [0b11001011, 0b10000111],
      [0b11001011, 0b10001000], [0b11001011, 0b10001001], [0b11001011, 0b10001010], [0b11001011, 0b10001011],
      [0b11001011, 0b10001100], [0b11001011, 0b10001101], [0b11001011, 0b10001110], [0b11001011, 0b10001111]
    ].map decode =
    [
      .res_0_b, .res_0_c, .res_0_d, .res_0_e, .res_0_h, .res_0_l, .res_0_atHL, .res_0_a, .res_1_b, .res_1_c, .res_1_d,
      .res_1_e, .res_1_h, .res_1_l, .res_1_atHL, .res_1_a
    ].map Except.ok := by
  decide +kernel

theorem test_decode_extended_9 :
    [
      [0b11001011, 0b10010000], [0b11001011, 0b10010001], [0b11001011, 0b10010010], [0b11001011, 0b10010011],
      [0b11001011, 0b10010100], [0b11001011, 0b10010101], [0b11001011, 0b10010110], [0b11001011, 0b10010111],
      [0b11001011, 0b10011000], [0b11001011, 0b10011001], [0b11001011, 0b10011010], [0b11001011, 0b10011011],
      [0b11001011, 0b10011100], [0b11001011, 0b10011101], [0b11001011, 0b10011110], [0b11001011, 0b10011111]
    ].map decode =
    [
      .res_2_b, .res_2_c, .res_2_d, .res_2_e, .res_2_h, .res_2_l, .res_2_atHL, .res_2_a, .res_3_b, .res_3_c, .res_3_d,
      .res_3_e, .res_3_h, .res_3_l, .res_3_atHL, .res_3_a
    ].map Except.ok := by
  decide +kernel

theorem test_decode_extended_A :
    [
      [0b11001011, 0b10100000], [0b11001011, 0b10100001], [0b11001011, 0b10100010], [0b11001011, 0b10100011],
      [0b11001011, 0b10100100], [0b11001011, 0b10100101], [0b11001011, 0b10100110], [0b11001011, 0b10100111],
      [0b11001011, 0b10101000], [0b11001011, 0b10101001], [0b11001011, 0b10101010], [0b11001011, 0b10101011],
      [0b11001011, 0b10101100], [0b11001011, 0b10101101], [0b11001011, 0b10101110], [0b11001011, 0b10101111]
    ].map decode =
    [
      .res_4_b, .res_4_c, .res_4_d, .res_4_e, .res_4_h, .res_4_l, .res_4_atHL, .res_4_a, .res_5_b, .res_5_c, .res_5_d,
      .res_5_e, .res_5_h, .res_5_l, .res_5_atHL, .res_5_a
    ].map Except.ok := by
  decide +kernel

theorem test_decode_extended_B :
    [
      [0b11001011, 0b10110000], [0b11001011, 0b10110001], [0b11001011, 0b10110010], [0b11001011, 0b10110011],
      [0b11001011, 0b10110100], [0b11001011, 0b10110101], [0b11001011, 0b10110110], [0b11001011, 0b10110111],
      [0b11001011, 0b10111000], [0b11001011, 0b10111001], [0b11001011, 0b10111010], [0b11001011, 0b10111011],
      [0b11001011, 0b10111100], [0b11001011, 0b10111101], [0b11001011, 0b10111110], [0b11001011, 0b10111111]
    ].map decode =
    [
      .res_6_b, .res_6_c, .res_6_d, .res_6_e, .res_6_h, .res_6_l, .res_6_atHL, .res_6_a, .res_7_b, .res_7_c, .res_7_d,
      .res_7_e, .res_7_h, .res_7_l, .res_7_atHL, .res_7_a
    ].map Except.ok := by
  decide +kernel

theorem test_decode_extended_C :
    [
      [0b11001011, 0b11000000], [0b11001011, 0b11000001], [0b11001011, 0b11000010], [0b11001011, 0b11000011],
      [0b11001011, 0b11000100], [0b11001011, 0b11000101], [0b11001011, 0b11000110], [0b11001011, 0b11000111],
      [0b11001011, 0b11001000], [0b11001011, 0b11001001], [0b11001011, 0b11001010], [0b11001011, 0b11001011],
      [0b11001011, 0b11001100], [0b11001011, 0b11001101], [0b11001011, 0b11001110], [0b11001011, 0b11001111]
    ].map decode =
    [
      .set_0_b, .set_0_c, .set_0_d, .set_0_e, .set_0_h, .set_0_l, .set_0_atHL, .set_0_a, .set_1_b, .set_1_c, .set_1_d,
      .set_1_e, .set_1_h, .set_1_l, .set_1_atHL, .set_1_a
    ].map Except.ok := by
  decide +kernel

theorem test_decode_extended_D :
    [
      [0b11001011, 0b11010000], [0b11001011, 0b11010001], [0b11001011, 0b11010010], [0b11001011, 0b11010011],
      [0b11001011, 0b11010100], [0b11001011, 0b11010101], [0b11001011, 0b11010110], [0b11001011, 0b11010111],
      [0b11001011, 0b11011000], [0b11001011, 0b11011001], [0b11001011, 0b11011010], [0b11001011, 0b11011011],
      [0b11001011, 0b11011100], [0b11001011, 0b11011101], [0b11001011, 0b11011110], [0b11001011, 0b11011111]
    ].map decode =
    [
      .set_2_b, .set_2_c, .set_2_d, .set_2_e, .set_2_h, .set_2_l, .set_2_atHL, .set_2_a, .set_3_b, .set_3_c, .set_3_d,
      .set_3_e, .set_3_h, .set_3_l, .set_3_atHL, .set_3_a
    ].map Except.ok := by
  decide +kernel

theorem test_decode_extended_E :
    [
      [0b11001011, 0b11100000], [0b11001011, 0b11100001], [0b11001011, 0b11100010], [0b11001011, 0b11100011],
      [0b11001011, 0b11100100], [0b11001011, 0b11100101], [0b11001011, 0b11100110], [0b11001011, 0b11100111],
      [0b11001011, 0b11101000], [0b11001011, 0b11101001], [0b11001011, 0b11101010], [0b11001011, 0b11101011],
      [0b11001011, 0b11101100], [0b11001011, 0b11101101], [0b11001011, 0b11101110], [0b11001011, 0b11101111]
    ].map decode =
    [
      .set_4_b, .set_4_c, .set_4_d, .set_4_e, .set_4_h, .set_4_l, .set_4_atHL, .set_4_a, .set_5_b, .set_5_c, .set_5_d,
      .set_5_e, .set_5_h, .set_5_l, .set_5_atHL, .set_5_a
    ].map Except.ok := by
  decide +kernel

theorem test_decode_extended_F :
    [
      [0b11001011, 0b11110000], [0b11001011, 0b11110001], [0b11001011, 0b11110010], [0b11001011, 0b11110011],
      [0b11001011, 0b11110100], [0b11001011, 0b11110101], [0b11001011, 0b11110110], [0b11001011, 0b11110111],
      [0b11001011, 0b11111000], [0b11001011, 0b11111001], [0b11001011, 0b11111010], [0b11001011, 0b11111011],
      [0b11001011, 0b11111100], [0b11001011, 0b11111101], [0b11001011, 0b11111110], [0b11001011, 0b11111111]
    ].map decode =
    [
      .set_6_b, .set_6_c, .set_6_d, .set_6_e, .set_6_h, .set_6_l, .set_6_atHL, .set_6_a, .set_7_b, .set_7_c, .set_7_d,
      .set_7_e, .set_7_h, .set_7_l, .set_7_atHL, .set_7_a
    ].map Except.ok := by
  decide +kernel

/-! ## One step of each instruction

The common setup of 95_test_vectors.md, part 2: reset, the display off, the bytes at C000, PC there. -/

/-- The machine after reset with a 32 KiB type-0 image of zero bytes, display off. -/
def off : State := memWrite { State.reset with cart := { State.reset.cart with image := some { size := 0x8000, bytes := [] } } } 0xFF40 0x00

/-- The bytes stored from an address on. -/
def poke (a : Word) : List Byte → State → State
  | [], s => s
  | v :: vs, s => poke (a + 1) vs (memWrite s a v)

/-- The common setup with a program at C000. -/
def prog (bytes : List Byte) : State := (poke 0xC000 bytes off).setPc 0xC000

/-- Registers changed. -/
def regs (f : Cpu → Cpu) (s : State) : State := s.withCpu (f s.cpu)

/-- Whether a step answers a next state of which `p` holds. -/
def after (s : State) (p : State → Bool) : Bool :=
  match step s with
  | .next t => p t
  | .fault _ => false
  | .refused _ => false

/-- R151. -/
theorem test_ld_a_b : after (regs (fun c => { c with b := 0x5A }) (prog [0x78]))
    (fun t => t.cpu.a == 0x5A && t.cpu.pc == 0xC001 && t.sys.stepT == 4) = true := by decide +kernel

/-- R152. -/
theorem test_ld_c_n : after (prog [0x0E, 0xFF])
    (fun t => t.cpu.c == 0xFF && t.cpu.pc == 0xC002 && t.sys.stepT == 8) = true := by decide +kernel

/-- R153. -/
theorem test_ld_a_atHL : after (regs (fun c => { c with h := 0xC1, l := 0x00 }) (poke 0xC100 [0x99] (prog [0x7E])))
    (fun t => t.cpu.a == 0x99 && t.sys.stepT == 8) = true := by decide +kernel

/-- R154. -/
theorem test_ld_atHL_b : after (regs (fun c => { c with h := 0xC1, l := 0x00, b := 0x42 }) (prog [0x70]))
    (fun t => memRead t 0xC100 == 0x42 && t.sys.stepT == 8) = true := by decide +kernel

/-- R154. -/
theorem test_ld_atHL_h : after (regs (fun c => { c with h := 0xC1, l := 0x00 }) (prog [0x74]))
    (fun t => memRead t 0xC100 == 0xC1 && t.sys.stepT == 8) = true := by decide +kernel

/-- R155. -/
theorem test_ld_atHL_n : after (regs (fun c => { c with h := 0xD0, l := 0x00 }) (prog [0x36, 0x77]))
    (fun t => memRead t 0xD000 == 0x77 && t.sys.stepT == 12) = true := by decide +kernel

/-- R156. -/
theorem test_ld_a_atBC : after (regs (fun c => { c with b := 0xC1, c := 0x00 }) (poke 0xC100 [0x3C] (prog [0x0A])))
    (fun t => t.cpu.a == 0x3C && t.sys.stepT == 8) = true := by decide +kernel

/-- R157. -/
theorem test_ld_a_atDE : after (regs (fun c => { c with d := 0xC1, e := 0x00 }) (poke 0xC100 [0x3D] (prog [0x1A])))
    (fun t => t.cpu.a == 0x3D && t.sys.stepT == 8) = true := by decide +kernel

/-- R158. -/
theorem test_ld_atBC_a : after (regs (fun c => { c with b := 0xC2, c := 0x00, a := 0x5C }) (prog [0x02]))
    (fun t => memRead t 0xC200 == 0x5C && t.sys.stepT == 8) = true := by decide +kernel

/-- R159. -/
theorem test_ld_atDE_a : after (regs (fun c => { c with d := 0xE2, e := 0x00, a := 0x5D }) (prog [0x12]))
    (fun t => memRead t 0xC200 == 0x5D && t.sys.stepT == 8) = true := by decide +kernel

/-- R160. -/
theorem test_ld_a_atnn : after (poke 0xC300 [0xAB] (prog [0xFA, 0x00, 0xC3]))
    (fun t => t.cpu.a == 0xAB && t.cpu.pc == 0xC003 && t.sys.stepT == 16) = true := by decide +kernel

/-- R161. -/
theorem test_ld_atnn_a : after (prog [0xEA, 0xA0, 0xFE])
    (fun t => memRead t 0xFEA0 == 0xFF && t.cpu.pc == 0xC003 && t.sys.stepT == 16) = true := by decide +kernel

/-- R162. -/
theorem test_ld_hl_nn : after (prog [0x21, 0x34, 0x12])
    (fun t => t.cpu.hl == 0x1234 && t.sys.stepT == 12) = true := by decide +kernel

/-- R162. -/
theorem test_ld_sp_nn : after (prog [0x31, 0x00, 0xE0])
    (fun t => t.cpu.sp == 0xE000 && t.sys.stepT == 12) = true := by decide +kernel

/-- R163. -/
theorem test_ld_atnn_sp : after (regs (fun c => { c with sp := 0xFFF8 }) (prog [0x08, 0x00, 0xC1]))
    (fun t => memRead t 0xC100 == 0xF8 && memRead t 0xC101 == 0xFF && t.sys.stepT == 20) = true := by decide +kernel

/-- R164. -/
theorem test_ldh_a_atn : after (poke 0xFF0F [0x05] (prog [0xF0, 0x0F]))
    (fun t => t.cpu.a == 0xE5 && t.sys.stepT == 12) = true := by decide +kernel

/-- R164. -/
theorem test_ldh_a_tac : after (poke 0xFF07 [0x05] (prog [0xF0, 0x07]))
    (fun t => t.cpu.a == 0xFD && t.sys.stepT == 12) = true := by decide +kernel

/-- R165. -/
theorem test_ldh_atn_a : after (regs (fun c => { c with a := 0x66 }) (prog [0xE0, 0x80]))
    (fun t => memRead t 0xFF80 == 0x66 && t.sys.stepT == 12) = true := by decide +kernel

/-- R165. -/
theorem test_ldh_ie_a : after (regs (fun c => { c with a := 0xFF }) (prog [0xE0, 0xFF]))
    (fun t => t.irq.ie == 0x1F && t.sys.stepT == 12) = true := by decide +kernel

/-- R166. -/
theorem test_ld_a_atC : after (regs (fun c => { c with c := 0x44 }) (prog [0xF2]))
    (fun t => t.cpu.a == 0x00 && t.sys.stepT == 8) = true := by decide +kernel

/-- R167. -/
theorem test_ld_atC_a : after ((fun s : State => { s with timer := { s.timer with div := 0x7F } }) (regs (fun c => { c with c := 0x04 }) (prog [0xE2])))
    (fun t => t.timer.div == 0x00 && t.sys.stepT == 8) = true := by decide +kernel

/-- R170. -/
theorem test_ld_a_atHLi : after (regs (fun c => { c with h := 0xC0, l := 0xFF }) (poke 0xC0FF [0x3C] (prog [0x2A])))
    (fun t => t.cpu.a == 0x3C && t.cpu.hl == 0xC100 && t.sys.stepT == 8) = true := by decide +kernel

/-- R171. -/
theorem test_ld_a_atHLd : after (regs (fun c => { c with h := 0xC0, l := 0x00 }) (prog [0x3A]))
    (fun t => t.cpu.a == 0x3A && t.cpu.hl == 0xBFFF && t.sys.stepT == 8) = true := by decide +kernel

/-- R172. -/
theorem test_ld_atHLi_a : after (regs (fun c => { c with h := 0xFF, l := 0xFF, a := 0x1F }) (prog [0x22]))
    (fun t => t.irq.ie == 0x1F && t.cpu.hl == 0x0000 && t.sys.stepT == 8) = true := by decide +kernel

/-- R173. -/
theorem test_ld_atHLd_a : after (regs (fun c => { c with h := 0xC1, l := 0x00, a := 0x07 }) (prog [0x32]))
    (fun t => memRead t 0xC100 == 0x07 && t.cpu.hl == 0xC0FF && t.sys.stepT == 8) = true := by decide +kernel

/-- R168. -/
theorem test_pop_af : after (regs (fun c => { c with sp := 0xDFF0 }) (poke 0xDFF1 [0x12] (poke 0xDFF0 [0xFF] (prog [0xF1]))))
    (fun t => t.cpu.a == 0x12 && t.cpu.f == 0xF0 && t.cpu.sp == 0xDFF2 && t.sys.stepT == 12) = true := by decide +kernel

/-- R168. -/
theorem test_pop_bc : after (regs (fun c => { c with sp := 0xFFFE }) (poke 0xFFFE [0x34] (prog [0xC1])))
    (fun t => t.cpu.c == 0x34 && t.cpu.b == 0x00 && t.cpu.sp == 0x0000 && t.sys.stepT == 12) = true := by decide +kernel

/-- R169. -/
theorem test_push_af : after (regs (fun c => { c with sp := 0xDFF0, a := 0x12, f := 0xB0 }) (prog [0xF5]))
    (fun t => t.cpu.sp == 0xDFEE && memRead t 0xDFEE == 0xB0 && memRead t 0xDFEF == 0x12 && t.sys.stepT == 16) = true := by decide +kernel

/-- R174. -/
theorem test_ld_sp_hl : after (regs (fun c => { c with h := 0xC0, l := 0xDE }) (prog [0xF9]))
    (fun t => t.cpu.sp == 0xC0DE && t.sys.stepT == 8) = true := by decide +kernel

/-- R181. -/
theorem test_add_a_atHL : after (regs (fun c => { c with a := 0x01, h := 0xC1, l := 0x00 }) (poke 0xC100 [0xFF] (prog [0x86])))
    (fun t => t.cpu.a == 0x00 && t.cpu.f == 0xB0 && t.sys.stepT == 8) = true := by decide +kernel

/-- R183. -/
theorem test_sub_a_n : after (regs (fun c => { c with a := 0x00 }) (prog [0xD6, 0x01]))
    (fun t => t.cpu.a == 0xFF && t.cpu.f == 0x70 && t.sys.stepT == 8) = true := by decide +kernel

/-- R182. -/
theorem test_adc_a_a : after (regs (fun c => { c with a := 0x80, f := 0x10 }) (prog [0x8F]))
    (fun t => t.cpu.a == 0x01 && t.cpu.f == 0x10 && t.sys.stepT == 4) = true := by decide +kernel

/-- R184. -/
theorem test_sbc_a_a : after (regs (fun c => { c with a := 0x42, f := 0x10 }) (prog [0x9F]))
    (fun t => t.cpu.a == 0xFF && t.cpu.f == 0x70 && t.sys.stepT == 4) = true := by decide +kernel

/-- R183. -/
theorem test_sub_a_a : after (regs (fun c => { c with a := 0x42 }) (prog [0x97]))
    (fun t => t.cpu.a == 0x00 && t.cpu.f == 0xC0 && t.sys.stepT == 4) = true := by decide +kernel

/-- R189. -/
theorem test_inc_b : after (regs (fun c => { c with b := 0xFF, f := 0x10 }) (prog [0x04]))
    (fun t => t.cpu.b == 0x00 && t.cpu.f == 0xB0 && t.sys.stepT == 4) = true := by decide +kernel

/-- R189. -/
theorem test_inc_c : after (regs (fun c => { c with c := 0x0F, f := 0x00 }) (prog [0x0C]))
    (fun t => t.cpu.c == 0x10 && t.cpu.f == 0x20 && t.sys.stepT == 4) = true := by decide +kernel

/-- R190. -/
theorem test_inc_atHL : after (regs (fun c => { c with h := 0xC1, l := 0x00, f := 0x10 }) (poke 0xC100 [0x7F] (prog [0x34])))
    (fun t => memRead t 0xC100 == 0x80 && t.cpu.f == 0x30 && t.sys.stepT == 12) = true := by decide +kernel

/-- R191. -/
theorem test_dec_d : after (regs (fun c => { c with d := 0x00, f := 0x00 }) (prog [0x15]))
    (fun t => t.cpu.d == 0xFF && t.cpu.f == 0x60 && t.sys.stepT == 4) = true := by decide +kernel

/-- R191. -/
theorem test_dec_e : after (regs (fun c => { c with e := 0x01, f := 0x10 }) (prog [0x1D]))
    (fun t => t.cpu.e == 0x00 && t.cpu.f == 0xD0 && t.sys.stepT == 4) = true := by decide +kernel

/-- R192. -/
theorem test_dec_atHL : after (regs (fun c => { c with h := 0xC1, l := 0x00, f := 0x00 }) (poke 0xC100 [0x00] (prog [0x35])))
    (fun t => memRead t 0xC100 == 0xFF && t.cpu.f == 0x60 && t.sys.stepT == 12) = true := by decide +kernel

/-- R194. -/
theorem test_cpl : after (regs (fun c => { c with a := 0x35, f := 0x90 }) (prog [0x2F]))
    (fun t => t.cpu.a == 0xCA && t.cpu.f == 0xF0 && t.sys.stepT == 4) = true := by decide +kernel

/-- R195. -/
theorem test_scf : after (regs (fun c => { c with f := 0xE0 }) (prog [0x37]))
    (fun t => t.cpu.f == 0x90 && t.sys.stepT == 4) = true := by decide +kernel

/-- R196. -/
theorem test_ccf : after (regs (fun c => { c with f := 0x90 }) (prog [0x3F]))
    (fun t => t.cpu.f == 0x80 && t.sys.stepT == 4) = true := by decide +kernel

/-- R196. -/
theorem test_ccf_sets : after (regs (fun c => { c with f := 0xE0 }) (prog [0x3F]))
    (fun t => t.cpu.f == 0x90 && t.sys.stepT == 4) = true := by decide +kernel

/-- R210. -/
theorem test_add_hl_bc : after (regs (fun c => { c with h := 0x8A, l := 0x23, b := 0x06, c := 0x05, f := 0x80 }) (prog [0x09]))
    (fun t => t.cpu.hl == 0x9028 && t.cpu.f == 0xA0 && t.sys.stepT == 8) = true := by decide +kernel

/-- R210. -/
theorem test_add_hl_hl : after (regs (fun c => { c with h := 0x8A, l := 0x23, f := 0x00 }) (prog [0x29]))
    (fun t => t.cpu.hl == 0x1446 && t.cpu.f == 0x30 && t.sys.stepT == 8) = true := by decide +kernel

/-- R210. -/
theorem test_add_hl_de : after (regs (fun c => { c with h := 0xFF, l := 0xFF, d := 0x00, e := 0x01, f := 0x80 }) (prog [0x19]))
    (fun t => t.cpu.hl == 0x0000 && t.cpu.f == 0xB0 && t.sys.stepT == 8) = true := by decide +kernel

/-- R210. -/
theorem test_add_hl_sp : after (regs (fun c => { c with h := 0x0F, l := 0xFF, sp := 0x0001, f := 0x00 }) (prog [0x39]))
    (fun t => t.cpu.hl == 0x1000 && t.cpu.f == 0x20 && t.sys.stepT == 8) = true := by decide +kernel

/-- R211. -/
theorem test_inc_de : after (regs (fun c => { c with d := 0x00, e := 0xFF }) (prog [0x13]))
    (fun t => t.cpu.de == 0x0100 && t.sys.stepT == 8) = true := by decide +kernel

/-- R211. -/
theorem test_inc_sp : after (regs (fun c => { c with sp := 0xFFFF }) (prog [0x33]))
    (fun t => t.cpu.sp == 0x0000 && t.cpu.f == 0x90 && t.sys.stepT == 8) = true := by decide +kernel

/-- R212. -/
theorem test_dec_bc : after (regs (fun c => { c with b := 0x00, c := 0x00 }) (prog [0x0B]))
    (fun t => t.cpu.bc == 0xFFFF && t.sys.stepT == 8) = true := by decide +kernel

/-- R212. -/
theorem test_dec_hl : after (regs (fun c => { c with h := 0x01, l := 0x00, f := 0xF0 }) (prog [0x2B]))
    (fun t => t.cpu.hl == 0x00FF && t.cpu.f == 0xF0 && t.sys.stepT == 8) = true := by decide +kernel

/-- R213. -/
theorem test_add_sp_e : after (regs (fun c => { c with sp := 0x0001, f := 0x00 }) (prog [0xE8, 0xFF]))
    (fun t => t.cpu.sp == 0x0000 && t.cpu.f == 0x30 && t.sys.stepT == 16) = true := by decide +kernel

/-- R213. -/
theorem test_add_sp_e_raw : after (regs (fun c => { c with sp := 0x1280, f := 0x00 }) (prog [0xE8, 0x80]))
    (fun t => t.cpu.sp == 0x1200 && t.cpu.f == 0x10 && t.sys.stepT == 16) = true := by decide +kernel

/-- R214. -/
theorem test_ld_hl_sp_e : after (regs (fun c => { c with sp := 0xFFF8, f := 0x00 }) (prog [0xF8, 0xFF]))
    (fun t => t.cpu.hl == 0xFFF7 && t.cpu.f == 0x30 && t.cpu.sp == 0xFFF8 && t.sys.stepT == 12) = true := by decide +kernel

/-- R214. -/
theorem test_ld_hl_sp_e_clears : after (regs (fun c => { c with sp := 0xDFF0, f := 0xF0 }) (prog [0xF8, 0x00]))
    (fun t => t.cpu.hl == 0xDFF0 && t.cpu.f == 0x00 && t.sys.stepT == 12) = true := by decide +kernel

/-- R231. -/
theorem test_rlca : after (regs (fun c => { c with a := 0x85, f := 0x00 }) (prog [0x07]))
    (fun t => t.cpu.a == 0x0B && t.cpu.f == 0x10 && t.sys.stepT == 4) = true := by decide +kernel

/-- R231. -/
theorem test_rlca_zero : after (regs (fun c => { c with a := 0x00, f := 0x10 }) (prog [0x07]))
    (fun t => t.cpu.a == 0x00 && t.cpu.f == 0x00 && t.sys.stepT == 4) = true := by decide +kernel

/-- R232. -/
theorem test_rrca : after (regs (fun c => { c with a := 0x3B, f := 0x00 }) (prog [0x0F]))
    (fun t => t.cpu.a == 0x9D && t.cpu.f == 0x10 && t.sys.stepT == 4) = true := by decide +kernel

/-- R233. -/
theorem test_rla : after (regs (fun c => { c with a := 0x80, f := 0x00 }) (prog [0x17]))
    (fun t => t.cpu.a == 0x00 && t.cpu.f == 0x10 && t.sys.stepT == 4) = true := by decide +kernel

/-- R234. -/
theorem test_rra : after (regs (fun c => { c with a := 0x01, f := 0x10 }) (prog [0x1F]))
    (fun t => t.cpu.a == 0x80 && t.cpu.f == 0x10 && t.sys.stepT == 4) = true := by decide +kernel

/-- R235. -/
theorem test_rlc_atHL : after (regs (fun c => { c with h := 0xC1, l := 0x00 }) (poke 0xC100 [0x80] (prog [0xCB, 0x06])))
    (fun t => memRead t 0xC100 == 0x01 && t.cpu.f == 0x10 && t.sys.stepT == 16) = true := by decide +kernel

/-- R242. -/
theorem test_srl_atHL : after (regs (fun c => { c with h := 0xC1, l := 0x00 }) (poke 0xC100 [0xFF] (prog [0xCB, 0x3E])))
    (fun t => memRead t 0xC100 == 0x7F && t.cpu.f == 0x10 && t.sys.stepT == 16) = true := by decide +kernel

/-- R241 and R295. -/
theorem test_swap_a : after (regs (fun c => { c with a := 0xF0, f := 0x10 }) (prog [0xCB, 0x37]))
    (fun t => t.cpu.a == 0x0F && t.cpu.f == 0x00 && t.sys.stepT == 8) = true := by decide +kernel

/-- R260. -/
theorem test_bit_7_h : after (regs (fun c => { c with h := 0x7F, f := 0x10 }) (prog [0xCB, 0x7C]))
    (fun t => t.cpu.f == 0xB0 && t.sys.stepT == 8) = true := by decide +kernel

/-- R260. -/
theorem test_bit_0_a : after (regs (fun c => { c with a := 0x01, f := 0xD0 }) (prog [0xCB, 0x47]))
    (fun t => t.cpu.f == 0x30 && t.sys.stepT == 8) = true := by decide +kernel

/-- R260. -/
theorem test_bit_0_atHL : after (regs (fun c => { c with h := 0xC1, l := 0x00, f := 0x00 }) (poke 0xC100 [0xFE] (prog [0xCB, 0x46])))
    (fun t => t.cpu.f == 0xA0 && t.sys.stepT == 12) = true := by decide +kernel

/-- R261. -/
theorem test_res_0_a : after (regs (fun c => { c with a := 0xFF }) (prog [0xCB, 0x87]))
    (fun t => t.cpu.a == 0xFE && t.cpu.f == 0x90 && t.sys.stepT == 8) = true := by decide +kernel

/-- R261. -/
theorem test_res_7_atHL : after (regs (fun c => { c with h := 0xC1, l := 0x00 }) (poke 0xC100 [0xFF] (prog [0xCB, 0xBE])))
    (fun t => memRead t 0xC100 == 0x7F && t.sys.stepT == 16) = true := by decide +kernel

/-- R262. -/
theorem test_set_0_b : after (regs (fun c => { c with b := 0x00 }) (prog [0xCB, 0xC0]))
    (fun t => t.cpu.b == 0x01 && t.sys.stepT == 8) = true := by decide +kernel

/-- R262. -/
theorem test_set_3_atHL_if : after (regs (fun c => { c with h := 0xFF, l := 0x0F }) (poke 0xFF0F [0x00] (prog [0xCB, 0xDE])))
    (fun t => t.irq.ifl == 0x08 && t.sys.stepT == 16) = true := by decide +kernel

/-- R271. -/
theorem test_jp_nn : after (prog [0xC3, 0x50, 0x01])
    (fun t => t.cpu.pc == 0x0150 && t.sys.stepT == 16) = true := by decide +kernel

/-- R272. -/
theorem test_jp_nz_taken : after (regs (fun c => { c with f := 0x00 }) (prog [0xC2, 0x00, 0xD0]))
    (fun t => t.cpu.pc == 0xD000 && t.sys.stepT == 16) = true := by decide +kernel

/-- R272. -/
theorem test_jp_nz_not_taken : after (regs (fun c => { c with f := 0x80 }) (prog [0xC2, 0x00, 0xD0]))
    (fun t => t.cpu.pc == 0xC003 && t.sys.stepT == 12) = true := by decide +kernel

/-- R272. -/
theorem test_jp_z : after (regs (fun c => { c with f := 0x80 }) (prog [0xCA, 0x00, 0xD0]))
    (fun t => t.cpu.pc == 0xD000 && t.sys.stepT == 16) = true := by decide +kernel

/-- R272. -/
theorem test_jp_nc : after (regs (fun c => { c with f := 0x10 }) (prog [0xD2, 0x00, 0xD0]))
    (fun t => t.cpu.pc == 0xC003 && t.sys.stepT == 12) = true := by decide +kernel

/-- R272. -/
theorem test_jp_c : after (regs (fun c => { c with f := 0x10 }) (prog [0xDA, 0x00, 0xD0]))
    (fun t => t.cpu.pc == 0xD000 && t.sys.stepT == 16) = true := by decide +kernel

/-- R273. -/
theorem test_jp_atHL : after (regs (fun c => { c with h := 0x40, l := 0x00 }) (prog [0xE9]))
    (fun t => t.cpu.pc == 0x4000 && t.sys.stepT == 4) = true := by decide +kernel

/-- R274. -/
theorem test_jr_e_self : after (prog [0x18, 0xFE])
    (fun t => t.cpu.pc == 0xC000 && t.sys.stepT == 12) = true := by decide +kernel

/-- R274. -/
theorem test_jr_e_back : after (prog [0x18, 0x80])
    (fun t => t.cpu.pc == 0xBF82 && t.sys.stepT == 12) = true := by decide +kernel

/-- R275. -/
theorem test_jr_nz : after (regs (fun c => { c with f := 0x80 }) (prog [0x20, 0xFB]))
    (fun t => t.cpu.pc == 0xC002 && t.sys.stepT == 8) = true := by decide +kernel

/-- R275. -/
theorem test_jr_z : after (regs (fun c => { c with f := 0x80 }) (prog [0x28, 0xFB]))
    (fun t => t.cpu.pc == 0xBFFD && t.sys.stepT == 12) = true := by decide +kernel

/-- R275. -/
theorem test_jr_nc : after (regs (fun c => { c with f := 0x00 }) (prog [0x30, 0xFB]))
    (fun t => t.cpu.pc == 0xBFFD && t.sys.stepT == 12) = true := by decide +kernel

/-- R275. -/
theorem test_jr_c : after (regs (fun c => { c with f := 0x00 }) (prog [0x38, 0xFB]))
    (fun t => t.cpu.pc == 0xC002 && t.sys.stepT == 8) = true := by decide +kernel

/-- R276. -/
theorem test_call_nn : after (regs (fun c => { c with sp := 0xFFFE }) (prog [0xCD, 0x00, 0x02]))
    (fun t => t.cpu.sp == 0xFFFC && memRead t 0xFFFC == 0x03 && memRead t 0xFFFD == 0xC0 && t.cpu.pc == 0x0200 && t.sys.stepT == 24) = true := by decide +kernel

/-- R277. -/
theorem test_call_c : after (regs (fun c => { c with f := 0x00, sp := 0xFFFE }) (prog [0xDC, 0x00, 0x02]))
    (fun t => t.cpu.pc == 0xC003 && t.cpu.sp == 0xFFFE && t.sys.stepT == 12) = true := by decide +kernel

/-- R277. -/
theorem test_call_nz : after (regs (fun c => { c with f := 0x80 }) (prog [0xC4, 0x00, 0x02]))
    (fun t => t.cpu.pc == 0xC003 && t.sys.stepT == 12) = true := by decide +kernel

/-- R278. -/
theorem test_ret : after (regs (fun c => { c with sp := 0xFFFC }) (poke 0xFFFD [0x01] (poke 0xFFFC [0x53] (prog [0xC9]))))
    (fun t => t.cpu.pc == 0x0153 && t.cpu.sp == 0xFFFE && t.sys.stepT == 16) = true := by decide +kernel

/-- R279. -/
theorem test_ret_nz : after (regs (fun c => { c with f := 0x80 }) (prog [0xC0]))
    (fun t => t.cpu.pc == 0xC001 && t.sys.stepT == 8) = true := by decide +kernel

/-- R279. -/
theorem test_ret_z : after (regs (fun c => { c with f := 0x80, sp := 0xFFFC }) (poke 0xFFFD [0x01] (poke 0xFFFC [0x53] (prog [0xC8]))))
    (fun t => t.cpu.pc == 0x0153 && t.cpu.sp == 0xFFFE && t.sys.stepT == 20) = true := by decide +kernel

/-- R279. -/
theorem test_ret_nc : after (regs (fun c => { c with f := 0x00, sp := 0xFFFC }) (poke 0xFFFD [0x01] (poke 0xFFFC [0x53] (prog [0xD0]))))
    (fun t => t.cpu.pc == 0x0153 && t.sys.stepT == 20) = true := by decide +kernel

/-- R282. -/
theorem test_reti : after (regs (fun c => { c with sp := 0xDFFC, ime := false }) (poke 0xDFFD [0x02] (poke 0xDFFC [0x00] (prog [0xD9]))))
    (fun t => t.cpu.pc == 0x0200 && t.cpu.sp == 0xDFFE && t.cpu.ime == true && t.sys.stepT == 16) = true := by decide +kernel

/-- R283. -/
theorem test_rst_28 : after (regs (fun c => { c with sp := 0xFFFE }) (prog [0xEF]))
    (fun t => memRead t 0xFFFC == 0x01 && memRead t 0xFFFD == 0xC0 && t.cpu.sp == 0xFFFC && t.cpu.pc == 0x0028 && t.sys.stepT == 16) = true := by decide +kernel

/-- R283. -/
theorem test_rst_38 : after (regs (fun c => { c with sp := 0xD000 }) (prog [0xFF]))
    (fun t => memRead t 0xCFFE == 0x01 && memRead t 0xCFFF == 0xC0 && t.cpu.sp == 0xCFFE && t.cpu.pc == 0x0038 && t.sys.stepT == 16) = true := by decide +kernel

/-- R290. -/
theorem test_nop : after (prog [0x00])
    (fun t => t.cpu.pc == 0xC001 && t.cpu.a == 0x01 && t.cpu.f == 0x90 && t.sys.stepT == 4) = true := by decide +kernel

/-- R291. -/
theorem test_halt : after (poke 0xFF0F [0x00] (poke 0xFFFF [0x04] (prog [0x76])))
    (fun t => t.cpu.halted == true && t.cpu.pc == 0xC001 && t.sys.stepT == 4) = true := by decide +kernel

/-- R291 and R324. -/
theorem test_halt_wakes : after (regs (fun c => { c with ime := false }) (poke 0xFF0F [0x04] (poke 0xFFFF [0x04] (prog [0x76]))))
    (fun t => t.cpu.halted == false && t.cpu.pc == 0xC001 && t.sys.stepT == 4) = true := by decide +kernel

/-- R292. -/
theorem test_stop : after (prog [0x10, 0x00])
    (fun t => t.cpu.stopped == true && t.cpu.pc == 0xC002 && t.sys.stepT == 4) = true := by decide +kernel

/-- R293. -/
theorem test_di : after (regs (fun c => { c with ime := true }) (prog [0xF3]))
    (fun t => t.cpu.ime == false && t.sys.stepT == 4) = true := by decide +kernel

/-- R294. -/
theorem test_ei_dispatches : after (poke 0xFF0F [0x01] (poke 0xFFFF [0x01] (prog [0xFB])))
    (fun t => t.irq.ifl == 0x00 && t.cpu.sp == 0xFFFC && memRead t 0xFFFC == 0x01 && memRead t 0xFFFD == 0xC0 && t.cpu.pc == 0x0040 && t.cpu.ime == false && t.sys.stepT == 20) = true := by decide +kernel

/-- R294. -/
theorem test_ei : after (poke 0xFF0F [0x1F] (poke 0xFFFF [0x00] (prog [0xFB])))
    (fun t => t.cpu.ime == true && t.sys.stepT == 4) = true := by decide +kernel

/-- R322, interrupts row 1. -/
theorem test_dispatch_vblank : after (regs (fun c => { c with ime := true }) (poke 0xFF0F [0x1F] (poke 0xFFFF [0x1F] (prog [0x00]))))
    (fun t => t.cpu.pc == 0x0040 && t.irq.ifl == 0x1E && t.cpu.ime == false && t.cpu.sp == 0xFFFC && memRead t 0xFFFD == 0xC0 && memRead t 0xFFFC == 0x01 && t.sys.stepT == 20) = true := by decide +kernel

/-- R322, interrupts row 3. -/
theorem test_dispatch_joypad : after (regs (fun c => { c with ime := true }) (poke 0xFF0F [0x14] (poke 0xFFFF [0x10] (prog [0x00]))))
    (fun t => t.cpu.pc == 0x0060 && t.irq.ifl == 0x04 && t.sys.stepT == 20) = true := by decide +kernel

/-- R322, interrupts row 4. -/
theorem test_no_serial_dispatch : after (regs (fun c => { c with ime := true }) (poke 0xFF0F [0x08] (poke 0xFFFF [0x08] (prog [0x00]))))
    (fun t => t.cpu.pc == 0xC001 && t.irq.ifl == 0x08 && t.sys.stepT == 4) = true := by decide +kernel

/-- R324, interrupts row 5. -/
theorem test_serial_does_not_wake_ime : after (regs (fun c => { c with ime := true, halted := true }) (poke 0xFF0F [0x08] (poke 0xFFFF [0x08] (prog [0x00]))))
    (fun t => t.cpu.pc == 0xC000 && t.cpu.halted == true && t.sys.stepT == 4) = true := by decide +kernel

/-- R324, interrupts row 6. -/
theorem test_serial_wakes : after (regs (fun c => { c with ime := false, halted := true }) (poke 0xFF0F [0x08] (poke 0xFFFF [0x08] (prog [0x00]))))
    (fun t => t.irq.ifl == 0x08 && t.cpu.halted == false && t.sys.stepT == 4) = true := by decide +kernel

/-- R382, interrupts row 8. -/
theorem test_halted_dispatch : after (regs (fun c => { c with ime := true, halted := true }) (poke 0xFF0F [0x04] (poke 0xFFFF [0x04] (prog [0x00]))))
    (fun t => t.cpu.pc == 0x0050 && t.irq.ifl == 0x00 && t.cpu.halted == false && memRead t 0xFFFD == 0xC0 && memRead t 0xFFFC == 0x00 && t.sys.stepT == 20) = true := by decide +kernel

/-- The ALU grid (R181-R188): opcodes 80, 88, ..., B8 with B as operand; the cells are A and F after, by column. -/
def aluGrid : List (Byte × List (Byte × Byte)) :=
  [(0x80, [(0x00, 0xB0), (0x10, 0x20), (0x00, 0xB0), (0x01, 0x00), (0x00, 0x90), (0x20, 0x00)]),
   (0x88, [(0x00, 0xB0), (0x10, 0x20), (0x01, 0x30), (0x01, 0x00), (0x00, 0x90), (0x21, 0x00)]),
   (0x90, [(0x74, 0x50), (0x0E, 0x40), (0xFE, 0x40), (0xFF, 0x70), (0x00, 0xC0), (0x00, 0xC0)]),
   (0x98, [(0x74, 0x50), (0x0E, 0x40), (0xFD, 0x40), (0xFF, 0x70), (0x00, 0xC0), (0xFF, 0x70)]),
   (0xA0, [(0x02, 0x20), (0x01, 0x20), (0x01, 0x20), (0x00, 0xA0), (0x80, 0x20), (0x10, 0x20)]),
   (0xA8, [(0xFC, 0x00), (0x0E, 0x00), (0xFE, 0x00), (0x01, 0x00), (0x00, 0x80), (0x00, 0x80)]),
   (0xB0, [(0xFE, 0x00), (0x0F, 0x00), (0xFF, 0x00), (0x01, 0x00), (0x80, 0x00), (0x10, 0x00)]),
   (0xB8, [(0x3A, 0x50), (0x0F, 0x40), (0xFF, 0x40), (0x00, 0x70), (0x80, 0xC0), (0x10, 0xC0)])]

theorem test_alu_grid : aluGrid.all (fun r =>
    ([(0x3A, 0xC6, 0x00), (0x0F, 0x01, 0x00), (0xFF, 0x01, 0x10), (0x00, 0x01, 0x00), (0x80, 0x80, 0x00), (0x10, 0x10, 0x10)].zip r.2).all
      (fun c => after (regs (fun p => { p with a := c.1.1, b := c.1.2.1, f := c.1.2.2 }) (prog [r.1]))
        (fun t => t.cpu.a == c.2.1 && t.cpu.f == c.2.2))) = true := by decide +kernel

/-- The CB grid on B (R235-R242). -/
def rotateGrid : List (Byte × List (Byte × Byte)) :=
  [(0x00, [(0x0B, 0x10), (0x02, 0x00), (0x01, 0x10), (0x00, 0x80)]), (0x08, [(0xC2, 0x10), (0x80, 0x10), (0x40, 0x00), (0x00, 0x80)]),
   (0x10, [(0x0A, 0x10), (0x03, 0x00), (0x00, 0x90), (0x01, 0x00)]), (0x18, [(0x42, 0x10), (0x80, 0x10), (0x40, 0x00), (0x80, 0x00)]),
   (0x20, [(0x0A, 0x10), (0x02, 0x00), (0x00, 0x90), (0x00, 0x80)]), (0x28, [(0xC2, 0x10), (0x00, 0x90), (0xC0, 0x00), (0x00, 0x80)]),
   (0x30, [(0x58, 0x00), (0x10, 0x00), (0x08, 0x00), (0x00, 0x80)]), (0x38, [(0x42, 0x10), (0x00, 0x90), (0x40, 0x00), (0x00, 0x80)])]

theorem test_rotate_grid : rotateGrid.all (fun r =>
    ([(0x85, 0x00), (0x01, 0x10), (0x80, 0x00), (0x00, 0x10)].zip r.2).all
      (fun c => after (regs (fun p => { p with b := c.1.1, f := c.1.2 }) (prog [0xCB, r.1]))
        (fun t => t.cpu.b == c.2.1 && t.cpu.f == c.2.2 && t.sys.stepT == 8))) = true := by decide +kernel

/-- R193, all eleven rows: A and F before, A and F after. -/
theorem test_daa : [((0x7D, 0x00), (0x83, 0x00)), ((0x0A, 0x00), (0x10, 0x00)), ((0x9A, 0x00), (0x00, 0x90)), ((0x00, 0x10), (0x60, 0x10)),
    ((0x12, 0x20), (0x18, 0x00)), ((0xA0, 0x00), (0x00, 0x90)), ((0x45, 0x40), (0x45, 0x40)), ((0x48, 0x60), (0x42, 0x40)),
    ((0x90, 0x50), (0x30, 0x50)), ((0xFF, 0x00), (0x65, 0x10)), ((0x00, 0x00), (0x00, 0x80))].all
      (fun c => after (regs (fun p => { p with a := c.1.1, f := c.1.2 }) (prog [0x27])) (fun t => t.cpu.a == c.2.1 && t.cpu.f == c.2.2)) =
    true := by decide +kernel

/-- R296: an illegal opcode is left at PC, recorded, and no peripheral advances. -/
theorem test_illegal_dd : after (prog [0xDD]) (fun t =>
    t.cpu.pc == 0xC000 && t.sys.fault == some ⟨0xDD, 0xC000⟩ && t.timer == off.timer &&
      (match step t with
        | .fault e => e == .fatalDecodeError 0xDD 0xC000
        | .next _ => false
        | .refused _ => false)) = true := by decide +kernel

/-- R295 and R120: the bare prefix, run by itself, fetches its second byte. -/
theorem test_prefix_cb : (match exec .prefix_cb ((prog [0xCB, 0x37]).setPc 0xC001) with
    | .next t => t.cpu.a == 0x10 && t.cpu.pc == 0xC002 && t.sys.cycles == 8
    | .fault _ => false
    | .refused _ => false) = true := by decide +kernel

/-! ## The devices -/

/-- R342, R343: selector 1 counts after 16 t, not after 15. -/
theorem test_timer_rate :
    (timerAdvance 15 (poke 0xFF07 [0x05] off)).timer.tima = 0x00 ∧ (timerAdvance 16 (poke 0xFF07 [0x05] off)).timer.tima = 0x01 := by
  decide +kernel

/-- E10: at FF the next tick reloads TMA and requests bit 2. -/
theorem test_timer_reload :
    let s := poke 0xFF0F [0x00] (poke 0xFF05 [0xFF, 0xAB, 0x05] off)
    (timerAdvance 15 s).timer.tima = 0xFF ∧ (timerAdvance 16 s).timer.tima = 0xAB ∧ (timerAdvance 16 s).irq.ifl = 0x04 := by decide +kernel

/-- R341: DIV counts after 256 t. -/
theorem test_div_rate : (timerAdvance 255 off).timer.div = 0xAB ∧ (timerAdvance 256 off).timer.div = 0xAC := by decide +kernel

/-- E9, the mode changes of a line; R357's mode bits. -/
theorem test_line_modes :
    (videoAdvance 79 State.reset).video.mode = .oamScan ∧ (videoAdvance 80 State.reset).video.mode = .drawing ∧
      (videoAdvance 251 State.reset).video.mode = .drawing := by decide +kernel

/-- R352: line 1 begins 204 t after the drawing of line 0. -/
theorem test_line_end :
    let s := { State.reset with video := { State.reset.video with mode := .hblank } }
    (videoAdvance 203 s).video.ly = 0 ∧ (videoAdvance 204 s).video.ly = 1 ∧ (videoAdvance 204 s).video.mode = .oamScan := by decide +kernel

/-- The video rows of LYC (R356): with LYC = 0 and STAT bit 6 set, 4 t request the interrupt, and STAT reads C6. -/
theorem test_line_compare :
    let s := videoAdvance 4 (poke 0xFF41 [0x40] (poke 0xFF0F [0x00] State.reset))
    s.irq.ifl = 0x02 ∧ memRead s 0xFF41 = 0xC6 := by decide +kernel

/-- The video rows of R354: one t-cycle after the last of line 143, LY = 144, mode 1 and the request. -/
theorem test_enter_vblank :
    let s : State := { State.reset with
      irq := { ifl := 0, ie := 0 }, video := { State.reset.video with mode := .hblank, vclock := 203, ly := 143 } }
    (videoAdvance 1 s).video.ly = 144 ∧ (videoAdvance 1 s).video.mode = .vblank ∧ (videoAdvance 1 s).irq.ifl = 0x01 := by decide +kernel

/-- The compositor on a worked tile (R362, R363, R366): tile 0, row 0 is bytes 0x3C, 0x7E; with BGP = 0xE4 the first four pixels of
line 0 have indices 0, 2, 3, 3. -/
theorem test_background_line :
    let vram := Memory.set (Memory.set [] 0 0x3C) 1 0x7E
    let u := backgroundPass .default vram 0 { State.reset.video with bgp := 0xE4 }
    (List.range 4).map (fun x => Sparse.get 0 u.bgidx x) = [0, 2, 3, 3] ∧
      Frame.pixel .default u.fbWork 0 1 = ⟨96, 96, 96, 255⟩ := by decide +kernel

/-- R95: the DMA row: [C000+i] = i, then C0 to FF46. -/
theorem test_dma :
    let s := poke 0xFF46 [0xC0] { off with bus := { off.bus with wram := Memory.ofFn 160 (BitVec.ofNat 8) } }
    memRead s 0xFE00 = 0x00 ∧ memRead s 0xFE9F = 0x9F ∧ memRead s 0xFF46 = 0xC0 := by decide +kernel

/-- The bus rows: echo both ways, unmapped addresses, read-only LY, the bits of IE. -/
theorem test_bus :
    memRead (memWrite off 0xC123 0x5A) 0xE123 = 0x5A ∧ memRead (memWrite off 0xFDFF 0x77) 0xDDFF = 0x77 ∧
    [0xFEA0, 0xFF03, 0xFF10, 0xFF4C, 0xFF50, 0xFF7F].map (memRead off) = [0xFF, 0xFF, 0xFF, 0xFF, 0xFF, 0xFF] ∧
    memRead (memWrite off 0xFF44 0x50) 0xFF44 = 0x00 ∧ memRead (memWrite off 0xFF0F 0xFF) 0xFF0F = 0xFF ∧
    memRead (memWrite off 0xFFFF 0xFF) 0xFFFF = 0x1F ∧ memRead (memWrite State.reset 0xFF41 0xFF) 0xFF41 = 0xFE := by decide +kernel

/-- R375: the serial row. -/
theorem test_serial : (poke 0xFF01 [0x41, 0x81] off).serial.log = [0x41] ∧ memRead (poke 0xFF01 [0x41, 0x81] off) 0xFF02 = 0x81 := by
  decide +kernel

/-- A 64-bank image whose bank b starts with byte b, of type 1. -/
def bank64 : Image := { size := 0x100000, bytes := Memory.set ((List.range 63).map (fun b => (0x4000 * (b + 1), BitVec.ofNat 8 (b + 1)))) 0x147 0x01 }

/-- The machine with that image. -/
def banked : State := { off with cart := { off.cart with image := some bank64 } }

/-- The MBC1 rows (R86-R93): the bank after each write, and what 4000 reads. -/
theorem test_mbc1 :
    let s1 := memWrite banked 0x2000 0x00
    let s2 := memWrite s1 0x2000 0x13
    let s3 := memWrite s2 0x4000 0x01
    let s4 := memWrite s3 0x2000 0x20
    let s5 := memWrite (memWrite s4 0x6000 0x01) 0x4000 0x02
    [s1, s2, s3, s4].map (fun s => (s.cart.romBank.toNat, memRead s 0x4000)) = [(0x01, 0x01), (0x13, 0x13), (0x33, 0x33), (0x21, 0x21)] ∧
      s5.cart.ramBank = 2 ∧ s5.cart.romBank = 0x21 ∧ (memWrite s5 0x0000 0x1A).cart.ramEnable = true := by decide +kernel

/-- R86's last row: bank 7 of a 4-bank image is bank 3. -/
theorem test_mbc1_modulo :
    let im : Image := { size := 0x10000, bytes := Memory.set (Memory.set [] 0xC000 0x03) 0x147 0x01 }
    memRead (memWrite { off with cart := { off.cart with image := some im } } 0x2000 0x07) 0x4000 = 0x03 := by decide +kernel

/-- The joypad rows (R370, R371). -/
theorem test_joypad :
    memRead (setButton .right true (poke 0xFF00 [0x20] off)) 0xFF00 = 0xEE ∧
    memRead (setButton .start true (setButton .a true (poke 0xFF00 [0x10] off))) 0xFF00 = 0xD6 ∧
    memRead (poke 0xFF00 [0x10] off) 0xFF00 = 0xDF ∧ (setButton .start true (poke 0xFF0F [0x00] off)).irq.ifl = 0x10 := by decide +kernel

/-- E11: the images load() refuses, and one it takes. -/
theorem test_load :
    [49152, 32767, 0, 32768 * 512].map (fun n => load { size := n, bytes := [] } off) =
      [.invalidCartridgeError, .invalidCartridgeError, .invalidCartridgeError, .invalidCartridgeError] ∧
    load { size := 32768, bytes := [(0x147, 0x05)] } off = .invalidCartridgeError ∧
    load { size := 65536, bytes := [(0x147, 0x01)] } off =
      .success { off with cart := ⟨some { size := 65536, bytes := [(0x147, 0x01)] }, 1, 0, false, false⟩ } := by decide +kernel

/-- E5 and its table of reads: reset() from any machine with the default parameters. -/
theorem test_reset :
    let s := hostReset (regs (fun c => { c with a := 0x77, sp := 0x1234, halted := true }) (poke 0xFF04 [0x01] off))
    s.cpu = State.reset.cpu ∧ [0xFF04, 0xFF05, 0xFF06, 0xFF07, 0xFF0F, 0xFFFF, 0xFF40, 0xFF41, 0xFF44, 0xFF47].map (memRead s) =
      [0xAB, 0x00, 0x00, 0xF8, 0xE1, 0x00, 0x91, 0x86, 0x00, 0xFC] := by decide +kernel

/-- The host's words: a placed table word is decoded and is what the first step runs. -/
theorem test_withFetchWord :
    decodeTableWord 16 0x37CB = some .swap_a ∧ decodeTableWord 24 0x0150C3 = some (.jp_nn 0x0150) ∧
    after (State.reset.withFetchWord 24 0x0150C3) (fun t => t.cpu.pc == 0x0150) = true := by decide +kernel

/-! ## Witnesses: the hypotheses of each obligation, met by concrete states and operands -/

theorem after_next {s : State} {p : State → Bool} (h : after s p = true) : ∃ t, step s = .next t ∧ p t = true := by
  unfold after at h
  cases hs : step s with
  | next t => exact ⟨t, rfl, by rwa [hs] at h⟩
  | fault e => rw [hs] at h; cases h
  | refused r => rw [hs] at h; cases h

theorem witness_DecodeEncodeRoundTrip : WellFormed (.jp_nn 0xFFFF) ∧ WellFormed .set_7_a := by decide

theorem witness_EncodeDecodeRoundTrip : decode [0x00] = .ok .nop ∧ decode [0xCB, 0xFF, 0x00] = .ok .set_7_a := by decide

theorem witness_FirstByteFixesLength : WellFormed .stop ∧ WellFormed .nop := by decide

theorem witness_StepRunsDecodedInstruction :
    Idles (regs (fun c => { c with halted := true }) off) ∧ Fetches (prog [0xC3, 0x50, 0x01]) ∧ decode (bytesAt (prog [0xC3, 0x50, 0x01]) (prog [0xC3, 0x50, 0x01]).cpu.pc 3) = .ok (.jp_nn 0x0150) := by
  decide +kernel

/-- A halted machine with the given IME, IE and IF. -/
def idle (ime : Bool) (ie ifl : Byte) : State := regs (fun c => { c with ime := ime, halted := true }) (poke 0xFFFF [ie] (poke 0xFF0F [ifl] off))

/-- The machine stays halted (no request enabled; only the serial one, with IME = 1), is woken, and is dispatched. -/
theorem witness_HaltedStepIdles :
    (Idles (idle false 0x00 0x1F) ∧ ∃ t, step (idle false 0x00 0x1F) = .next t ∧ t.cpu.halted = true) ∧
    (Idles (idle true 0x08 0x08) ∧ ∃ t, step (idle true 0x08 0x08) = .next t ∧ t.cpu.halted = true) ∧
    (Idles (idle false 0x08 0x08) ∧ (idle false 0x08 0x08).cpu.ime = false ∧ ∃ t, step (idle false 0x08 0x08) = .next t ∧ t.cpu.halted = false) ∧
    (Idles (idle true 0x10 0x10) ∧ (idle true 0x10 0x10).cpu.ime = true ∧ ∃ t, step (idle true 0x10 0x10) = .next t ∧ t.cpu.halted = false) ∧
    ((idle true 0x10 0x0F).irq.ifl ||| 0b00111) &&& (idle true 0x10 0x0F).irq.ie = 0 := by
  have key (s : State) (b : Bool) (h : after s (fun t => t.cpu.halted == b) = true) : ∃ t, step s = .next t ∧ t.cpu.halted = b :=
    (after_next h).imp fun _ h => ⟨h.1, by simpa using h.2⟩
  exact ⟨⟨by decide +kernel, key _ true (by decide +kernel)⟩, ⟨by decide +kernel, key _ true (by decide +kernel)⟩,
    ⟨by decide +kernel, by decide +kernel, key _ false (by decide +kernel)⟩,
    ⟨by decide +kernel, by decide +kernel, key _ false (by decide +kernel)⟩, by decide +kernel⟩

theorem witness_StepStops :
    State.reset.cart.image = none ∧
    ({ off with sys := { off.sys with fault := some ⟨0xDD, 0xC000⟩ } } : State).sys.fault = some ⟨0xDD, 0xC000⟩ ∧ off.cart.image ≠ none ∧
    off.sys.fault = none ∧ (regs (fun c => { c with stopped := true }) off).cpu.stopped = true := by decide +kernel

theorem witness_IllegalOpcodeFreezesTheMachine : Fetches (prog [0xDD]) ∧ memRead (prog [0xDD]) (prog [0xDD]).cpu.pc = IllegalOp.opDD.byte := by
  decide +kernel

theorem witness_EveryInstructionCompletes : ∀ k, Instr.nop ≠ .illegal k := by
  intro k
  cases k <;> decide

/-- Each edge of the storage that a push can fall on. -/
theorem witness_PushPopRoundTrip : [0x8002, 0xA001, 0xC001, 0xFEA0, 0xFFFF].all (fun sp : Word =>
    decide (PlainRam off (sp - 1)) && decide (PlainRam off (sp - 2))) = true := by decide +kernel

theorem witness_AddSubtractCompare (o : AluOp) : (AluOp.cp ≠ .and ∧ AluOp.cp ≠ .xor ∧ AluOp.cp ≠ .or) ∧ AluForm o (.alu o .atHL) off (off.readR8 .atHL) ∧ AluForm o (.alu o (.reg .a)) off 0x01 ∧
    AluForm o (.aluImm o 0xFF) off 0xFF := ⟨by decide, .inl ⟨.atHL, rfl, rfl⟩, .inl ⟨.reg .a, rfl, rfl⟩, .inr rfl⟩

theorem witness_LogicOperations : AluForm .and (.alu .and (.reg .b)) off 0x00 ∧ AluForm .xor (.aluImm .xor 0x01) off 0x01 ∧
    AluForm .or (.alu .or .atHL) off (off.readR8 .atHL) := ⟨.inl ⟨.reg .b, rfl, rfl⟩, .inr rfl, .inl ⟨.atHL, rfl, rfl⟩⟩

theorem witness_DecimalAdjust : off.cpu.f.getLsbD 6 = false ∧ (regs (fun c => { c with f := 0x40 }) off).cpu.f.getLsbD 6 = true := by
  decide +kernel

theorem witness_DecimalSumLaw :
    (99 < 100 ∧ (regs (fun c => { c with a := 0x99 }) off).cpu.a = BitVec.ofNat 8 (16 * (99 / 10) + 99 % 10)) ∧
    (0 < 100 ∧ (regs (fun c => { c with a := 0x00 }) off).cpu.a = BitVec.ofNat 8 (16 * (0 / 10) + 0 % 10)) := by decide +kernel

theorem witness_PrefixedRotates (o : RotOp) : ∃ (v res : Byte) (out : Bool), (v = off.cpu.getReg .b ∧ v = memRead off (off.cpu.h ++ off.cpu.l)) ∧
    (let c := BitVec.ofBool (off.cpu.f.getLsbD 4)
     match o with
     | .rlc => res = v.extractLsb' 0 7 ++ v.extractLsb' 7 1 ∧ out = v.getLsbD 7
     | .rrc => res = v.extractLsb' 0 1 ++ v.extractLsb' 1 7 ∧ out = v.getLsbD 0
     | .rl => res = v.extractLsb' 0 7 ++ c ∧ out = v.getLsbD 7
     | .rr => res = c ++ v.extractLsb' 1 7 ∧ out = v.getLsbD 0
     | .sla => res = v.extractLsb' 0 7 ++ 0#1 ∧ out = v.getLsbD 7
     | .sra => res = v.extractLsb' 7 1 ++ v.extractLsb' 1 7 ∧ out = v.getLsbD 0
     | .swap => res = v.extractLsb' 0 4 ++ v.extractLsb' 4 4 ∧ out = false
     | .srl => res = 0#1 ++ v.extractLsb' 1 7 ∧ out = v.getLsbD 0) := by
  cases o <;> exact ⟨off.cpu.getReg .b, _, _, by decide +kernel, rfl, rfl⟩

theorem witness_PrefixRunsExtendedOpcode : memRead (prog [0x37]) (prog [0x37]).cpu.pc = 0x37 := by decide +kernel

/-- A push to plain storage; a store to 0xFF46 with a byte of WRAM and one of HRAM elsewhere; an instruction that stores nothing. -/
theorem witness_MemoryFrame :
    ((∃ t, exec .push_bc off = .next t) ∧ storeAddrs .push_bc off = [0xFFFD, 0xFFFC] ∧ PlainRam off 0xFFFD ∧ PlainRam off 0xFFFC ∧
      ¬SameByte 0xFFFD 0xFFFB ∧ ¬SameByte 0xFFFC 0xFFFB) ∧
    ((∃ t, exec (.ldh_atn_a 0x46) off = .next t) ∧ storeAddrs (.ldh_atn_a 0x46) off = [0xFF46] ∧ PlainRam off 0xFDFF ∧ ¬SameByte 0xFF46 0xFDFF ∧
      PlainRam off 0xFF80 ∧ ¬SameByte 0xFF46 0xFF80 ∧ ¬(0xFF80 : Word).toNat < 0xFEA0) ∧
    ((∃ t, exec .nop off = .next t) ∧ storeAddrs .nop off = []) :=
  ⟨⟨⟨_, rfl⟩, by decide +kernel⟩, ⟨⟨_, rfl⟩, by decide +kernel⟩, ⟨_, rfl⟩, by decide⟩

theorem witness_StorageReadAfterWrite :
    [0x8000, 0x9FFF, 0xA000, 0xBFFF, 0xC000, 0xDDFF, 0xDE00, 0xDFFF, 0xE000, 0xFDFF, 0xFE00, 0xFE9F, 0xFF80, 0xFFFE].all (fun a : Word =>
      decide (PlainRam off a)) = true ∧
    SameByte 0xC000 0xE000 ∧ SameByte 0xDDFF 0xFDFF ∧ SameByte 0xFDFF 0xDDFF ∧ ¬SameByte 0xDE00 0xFE00 ∧ ¬SameByte 0xC000 0xC001 := by
  decide +kernel

theorem witness_UnmappedAccess :
    [0xFEA0, 0xFEFF, 0xFF03, 0xFF08, 0xFF0E, 0xFF10, 0xFF3F, 0xFF4C, 0xFF4F, 0xFF51, 0xFF7F].all (fun a : Word =>
      decide ((0xFEA0 ≤ a.toNat ∧ a.toNat ≤ 0xFEFF) ∨ a = 0xFF03 ∨ (0xFF08 ≤ a.toNat ∧ a.toNat ≤ 0xFF0E) ∨
        (0xFF10 ≤ a.toNat ∧ a.toNat ≤ 0xFF3F) ∨ (0xFF4C ≤ a.toNat ∧ a.toNat ≤ 0xFF4F) ∨ (0xFF51 ≤ a.toNat ∧ a.toNat ≤ 0xFF7F))) = true := by
  decide +kernel

theorem witness_CartridgeController :
    off.cart.banked = false ∧ banked.cart.banked = true ∧ banked.cart.bankMode = false ∧ (memWrite banked 0x6000 0x01).cart.bankMode = true ∧
    (memWrite banked 0x6000 0x01).cart.banked = true ∧ banked.params.mbc1ModeWrite = .bit0 ∧
    ({ banked with params := { banked.params with mbc1ModeWrite := .toggle } } : State).cart.banked = true ∧
    (0x1FFF : Word).toNat < 0x2000 ∧ 0x2000 ≤ (0x2000 : Word).toNat ∧ (0x3FFF : Word).toNat < 0x4000 ∧ 0x4000 ≤ (0x4000 : Word).toNat ∧
    (0x5FFF : Word).toNat < 0x6000 ∧ 0x6000 ≤ (0x6000 : Word).toNat ∧ (0x7FFF : Word).toNat < 0x8000 := by decide +kernel

theorem witness_RomReads :
    banked.cart.image = some bank64 ∧ Memory.get bank64.bytes 0x147 ≠ 0 ∧ off.cart.image = some { size := 0x8000, bytes := [] } ∧
    Memory.get [] 0x147 = 0 ∧ banked.bus.overlay = false ∧
    ({ banked with bus := { banked.bus with overlay := true } } : State).bus.overlay = true ∧ (0x00FF : Word).toNat < 0x100 ∧
    0x100 ≤ (0x0100 : Word).toNat ∧ (0x3FFF : Word).toNat < 0x4000 ∧ 0x4000 ≤ (0x7FFF : Word).toNat ∧ (0x7FFF : Word).toNat < 0x8000 := by
  decide +kernel

theorem witness_OverlayOneWay : ∃ t, step (prog [0x00]) = .next t :=
  (after_next (p := fun _ => true) (by decide +kernel)).imp fun _ h => h.1

theorem witness_LcdcWrite :
    State.reset.video.lcdc.getLsbD 7 = true ∧ (0x11 : Byte).getLsbD 7 = false ∧ off.video.lcdc.getLsbD 7 = false ∧
    (0x91 : Byte).getLsbD 7 = true := by decide +kernel

theorem witness_JoypadPort :
    (poke 0xFF00 [0x20] off).joypad.jsel = 0b10 ∧ (poke 0xFF00 [0x10] off).joypad.jsel = 0b01 ∧ (poke 0xFF00 [0x30] off).joypad.jsel = 0b11 ∧
    (poke 0xFF00 [0x00] off).joypad.jsel = 0b00 ∧ off.joypad.buttons.get .up = false ∧
    (setButton .up true off).joypad.buttons.get .up = true := by decide +kernel

/-- One state for each clause, in order. -/
theorem witness_InterruptPass :
    let at' (ime halted : Bool) (ie ifl : Byte) : State :=
      regs (fun c => { c with ime := ime, halted := halted }) (poke 0xFFFF [ie] (poke 0xFF0F [ifl] off))
    let p (s : State) : BitVec 5 := s.irq.ifl &&& s.irq.ie
    let s1 := at' true false 0x1F 0x1F
    let s2 := at' true false 0x1E 0x1F
    let s3 := at' true false 0x14 0x1F
    let s4 := at' true false 0x18 0x1F
    let s5 := at' true false 0x08 0x1F
    let s6 := at' false true 0x01 0x01
    let s7 := at' false true 0x01 0x02
    let s8 := at' false false 0x1F 0x1F
    (s1.cpu.ime = true ∧ (p s1).getLsbD 0 = true) ∧ (s2.cpu.ime = true ∧ (p s2).getLsbD 0 = false ∧ (p s2).getLsbD 1 = true) ∧
    (s3.cpu.ime = true ∧ (p s3).getLsbD 0 = false ∧ (p s3).getLsbD 1 = false ∧ (p s3).getLsbD 2 = true) ∧
    (s4.cpu.ime = true ∧ (p s4).getLsbD 0 = false ∧ (p s4).getLsbD 1 = false ∧ (p s4).getLsbD 2 = false ∧ (p s4).getLsbD 4 = true) ∧
    (s5.cpu.ime = true ∧ p s5 &&& 0b10111 = 0) ∧ (s6.cpu.ime = false ∧ p s6 ≠ 0 ∧ s6.cpu.halted = true) ∧
    (s7.cpu.ime = false ∧ p s7 = 0) ∧ (s8.cpu.ime = false ∧ s8.cpu.halted = false) := by decide +kernel

theorem witness_AtMostOneDispatchPerStep :
    ∃ t, step (poke 0xFFFF [0x01] (poke 0xFF0F [0x01] (prog [0xFB]))) = .next t ∧ t.sys.dispatchT = 16 ∧ t.sys.fault = none := by
  obtain ⟨t, h, p⟩ := after_next (s := poke 0xFFFF [0x01] (poke 0xFF0F [0x01] (prog [0xFB])))
    (p := fun t => decide (t.sys.dispatchT = 16) && decide (t.sys.fault = none)) (by decide +kernel)
  simp only [Bool.and_eq_true, decide_eq_true_eq] at p
  exact ⟨t, h, p⟩

theorem witness_ImeWriters : (∃ t, exec .ei off = .next t) ∧ (∃ t, exec .di off = .next t) ∧ ∃ t, exec .nop off = .next t :=
  ⟨⟨_, rfl⟩, ⟨_, rfl⟩, _, rfl⟩

theorem witness_DividerRate : 0 < off.params.timerTick ∧ off.timer.tsub = 0 ∧ off.timer.dsub = 0 := by decide +kernel

theorem witness_CounterRate :
    let s := poke 0xFF07 [0x05] off
    (0 < s.params.timerTick ∧ s.timer.tsub = 0 ∧ s.timer.tac.getLsbD 2 = true ∧ s.timer.tacc = 0 ∧ 15 < 1 * s.params.timerTick ∧
      s.timer.tima ≠ 0xFF) ∧ (poke 0xFF05 [0xFF] s).timer.tima = 0xFF ∧ (poke 0xFF07 [0x01] off).timer.tac.getLsbD 2 = false := by decide +kernel

theorem witness_VisibleLine :
    (State.reset.video.mode = .oamScan ∧ State.reset.video.vclock = 0 ∧ State.reset.video.ly.toNat < 143) ∧
    ({ State.reset with video := { State.reset.video with ly := 142 } } : State).video.ly.toNat < 143 ∧ 79 < 80 ∧ 251 < 252 ∧ 455 < 456 ∧
    (videoCycles 251 State.reset).video.mode = .drawing ∧ (videoCycles 251 State.reset).video.vclock = 171 := by
  decide +kernel

/-- The start of a frame with interrupts masked, with VBlank enabled, and with nothing to dispatch; and the cycle that enters VBlank. -/
theorem witness_WholeFrame :
    (State.reset.video.mode = .oamScan ∧ State.reset.video.vclock = 0 ∧ State.reset.video.ly = 0 ∧ State.reset.cpu.ime = false) ∧
    ((regs (fun c => { c with ime := true }) (poke 0xFFFF [0x01] State.reset)).cpu.ime = true ∧
      (poke 0xFFFF [0x01] State.reset).irq.ie.getLsbD 0 = true ∧ (poke 0xFFFF [0x01] State.reset).video = State.reset.video) ∧
    ((poke 0xFFFF [0x1C] State.reset).irq.ifl ||| 0b00011) &&& (poke 0xFFFF [0x1C] State.reset).irq.ie &&& 0b10111 = 0 ∧
    (let u : Video := { State.reset.video with mode := .hblank, vclock := 203, ly := 143 }
     (u.mode = .hblank ∧ u.vclock = 203 ∧ u.ly = 143) ∧ ¬({ u with ly := 142 } : Video).ly = 143) := by decide +kernel

theorem witness_LineCompare :
    off.video.lcdc.getLsbD 7 = false ∧ State.reset.video.lcdc.getLsbD 7 = true ∧
    (videoCycles 4 State.reset).video.ly = (videoCycles 4 State.reset).video.lyc ∧
    (videoCycles 4 (poke 0xFF45 [0x01] State.reset)).video.ly ≠ (videoCycles 4 (poke 0xFF45 [0x01] State.reset)).video.lyc := by decide +kernel

/-- The window shown at both ends of a row, and not shown with the background on and off. -/
theorem witness_BackgroundAndWindow :
    (0 < 144 ∧ 143 < 144 ∧ 0 < 160 ∧ 159 < 160) ∧ ((0xB1 : Byte).getLsbD 5 = true ∧ (143 : Byte).toNat ≤ 143 ∧ (7 : Byte).toNat ≤ 0 + 7 ∧
      (166 : Byte).toNat ≤ 159 + 7) ∧
    (¬((0x91 : Byte).getLsbD 5 = true) ∧ (0x91 : Byte).getLsbD 0 = true ∧ (0x90 : Byte).getLsbD 0 = false ∧ ¬((167 : Byte).toNat ≤ 159 + 7)) := by
  decide

theorem witness_SpritePass : 0 < 160 ∧ 159 < 160 := by decide

/-- The common setup meets the invariant. -/
theorem off_inv : MachineInv off :=
  ⟨by decide +kernel, by decide +kernel, by decide +kernel, by decide +kernel, by decide +kernel, by decide +kernel⟩

theorem witness_FlagLowNibbleIsZero : (∃ t, exec .pop_af off = .next t) ∧ off.cpu.f.extractLsb' 0 4 = 0 := ⟨⟨_, rfl⟩, by decide +kernel⟩

theorem witness_ResetLeaves : State.reset.params.bootMode = .postBoot ∧
    ({ State.reset with params := { State.reset.params with bootMode := .bootRom } } : State).params.bootMode = .bootRom := by decide

theorem witness_HostCallResults :
    ((∃ n, n ≤ 8 ∧ 8388608 = 32768 * 2 ^ n) ∧ (Memory.get [(0x147, 0x03)] 0x147).toNat ≤ 3) ∧ (∃ n, n ≤ 8 ∧ 32768 = 32768 * 2 ^ n) ∧
    ¬((Memory.get [(0x147, 0x04)] 0x147).toNat ≤ 3) := ⟨⟨⟨8, by decide⟩, by decide⟩, ⟨0, by decide⟩, by decide⟩

/-- A machine whose NOP costs a whole frame. -/
def longNop : State := { prog [0x00] with params := { State.reset.params with cycles := [(0x000, ⟨70224, 70224⟩)] } }

theorem longNop_step : ∃ u, exec (fetchInstr (beginStep longNop)) (fetched (beginStep longNop)) = .next u ∧ u.sys.cycles = 70224 ∧
    u.sys.fault = none ∧ u.sys.frameT = longNop.sys.frameT := ⟨_, rfl, by decide +kernel, by decide +kernel, by decide +kernel⟩

theorem runFrame_start {s : State} (h : s.sys.fault = none) (h0 : s.sys.frameT = 0) : runFrame s = frameLoop frameBudget true s := by
  have e : ({ s with sys := { s.sys with frameT := 0 } } : State) = s := by rw [← h0]
  unfold runFrame
  rw [h]
  exact congrArg (frameLoop frameBudget true) e

/-- A frame whose first step spends the budget. -/
theorem frameLoop_long (n : Nat) {s t : State} (h1 : ¬ frameBudget ≤ s.sys.frameT) (h2 : s.cpu.stopped = false) (hs : step s = .next t)
    (ht : t.sys.fault = none) (hb : frameBudget ≤ t.sys.frameT + t.sys.stepT) :
    frameLoop (n + 2) true s = .frameDone { t with sys := { t.sys with frameT := t.sys.frameT + t.sys.stepT } } := by
  rw [frameLoop, if_neg h1, if_neg (by simp [h2]), if_neg (by simp), hs]
  simp only [ht]
  rw [frameLoop, if_pos hb]

/-- Whether a frame ended at a breakpoint. -/
def isHit : FrameResult → Bool
  | .breakpointHit _ _ => true
  | .frameDone _ => false
  | .stopped _ => false
  | .faulted _ _ => false
  | .refused _ => false

theorem isHit_hit {r : FrameResult} (h : isHit r = true) : ∃ pc t, r = .breakpointHit pc t := by
  cases r <;> first | exact ⟨_, _, rfl⟩ | cases h

/-- A frame whose first step raises the FatalDecodeError, breakpoint or not. -/
theorem frameLoop_faulted (n : Nat) {s t : State} {e : DecodeFault} (h1 : ¬ frameBudget ≤ s.sys.frameT) (h2 : s.cpu.stopped = false)
    (hs : step s = .next t) (ht : t.sys.fault = some e) : frameLoop (n + 1) true s = .faulted e t := by
  rw [frameLoop, if_neg h1, if_neg (by simp [h2]), if_neg (by simp), hs]
  simp only [ht]

/-- An illegal opcode with a breakpoint on it. -/
def faultAtBreakpoint : State := { prog [0xDD] with sys := { off.sys with breakpoints := [0xC000] } }

/-- Each outcome of runFrame() is reached from a state that meets the invariant. -/
theorem witness_RunFrameEnds :
    (MachineInv longNop ∧ ∃ t, runFrame longNop = .frameDone t) ∧
    (MachineInv { prog [0x00, 0x00] with sys := { off.sys with breakpoints := [0xC001] } } ∧
      ∃ pc t, runFrame { prog [0x00, 0x00] with sys := { off.sys with breakpoints := [0xC001] } } = .breakpointHit pc t) ∧
    (MachineInv { off with sys := { off.sys with fault := some ⟨0xDD, 0xC000⟩ } }) ∧
    (MachineInv (regs (fun c => { c with stopped := true }) off) ∧ off.sys.fault = none ∧ off.cart.image ≠ none ∧
      ∃ t, runFrame (regs (fun c => { c with stopped := true }) off) = .stopped t) ∧
    (MachineInv faultAtBreakpoint ∧ ∃ e u, runFrame faultAtBreakpoint = .faulted e u ∧ faultAtBreakpoint.sys.fault = none ∧
      step faultAtBreakpoint = .next u ∧ u.sys.fault = some e) := by
  refine ⟨⟨⟨by decide +kernel, by decide +kernel, by decide +kernel, by decide +kernel, by decide +kernel, by decide +kernel⟩, ?_⟩,
    ⟨⟨by decide +kernel, by decide +kernel, by decide +kernel, by decide +kernel, by decide +kernel, by decide +kernel⟩, ?_⟩,
    off_inv.withSys _, ⟨off_inv.withCpu (by decide +kernel), by decide +kernel, by decide +kernel, _, rfl⟩,
    ⟨by decide +kernel, by decide +kernel, by decide +kernel, by decide +kernel, by decide +kernel, by decide +kernel⟩, ?_⟩
  · obtain ⟨u, hu, hc, hf, hq'⟩ := longNop_step
    have hs := step_fetches (by decide +kernel) hu
    have ha : afterInstr u = finishStep 70224 u := by simp only [afterInstr, hf, hc]
    have hk := finishStep_keeps 70224 u
    have ht : (afterInstr u).sys.fault = none := by rw [ha, hk.fault, hf]
    have hb : frameBudget ≤ longNop.sys.frameT + (afterInstr u).sys.stepT := by
      rw [ha]
      exact le_trans (Nat.le_add_right 70224 _) (Nat.le_add_left _ _)
    have hq : (afterInstr u).sys.frameT = longNop.sys.frameT := by
      rw [ha, hk.frameT]
      exact hq'
    rw [runFrame_start (by decide +kernel) (by decide +kernel), show frameBudget = 70222 + 2 from rfl]
    exact ⟨_, frameLoop_long 70222 (by decide +kernel) (by decide +kernel) hs ht (hq ▸ hb)⟩
  · exact isHit_hit (by decide +kernel)
  · have hs := step_fetches (s := faultAtBreakpoint) (by decide +kernel) rfl
    refine ⟨⟨0xDD, 0xC000⟩, _, ?_, by decide +kernel, hs, by decide +kernel⟩
    rw [runFrame_start (by decide +kernel) (by decide +kernel)]
    exact frameLoop_faulted 70223 (by decide +kernel) (by decide +kernel) hs (by decide +kernel)

theorem witness_StepKeepsInvariant :
    (MachineInv (prog [0x00]) ∧ ∃ t, step (prog [0x00]) = .next t) ∧
    (∃ s t, MachineInv s ∧ runFrame s = .frameDone t) ∧ (∃ s t, MachineInv s ∧ runFrame s = .stopped t) ∧
    (∃ s pc t, MachineInv s ∧ runFrame s = .breakpointHit pc t) ∧ (∃ s e t, MachineInv s ∧ runFrame s = .faulted e t) ∧
    (MachineInv State.reset ∧ Memory.ok 65536 [(0x147, 0x01)] = true ∧ ∃ t, load { size := 65536, bytes := [(0x147, 0x01)] } State.reset = .success t) :=
  ⟨⟨⟨by decide +kernel, by decide +kernel, by decide +kernel, by decide +kernel, by decide +kernel, by decide +kernel⟩, witness_OverlayOneWay⟩,
    witness_RunFrameEnds.1.elim fun h ⟨t, e⟩ => ⟨_, t, h, e⟩, witness_RunFrameEnds.2.2.2.1.elim fun h ⟨_, _, t, e⟩ => ⟨_, t, h, e⟩,
    witness_RunFrameEnds.2.1.elim fun h ⟨pc, t, e⟩ => ⟨_, pc, t, h, e⟩, witness_RunFrameEnds.2.2.2.2.elim fun h ⟨e, t, k, _⟩ => ⟨_, e, t, h, k⟩,
    ⟨by decide, by decide, by decide, by decide, by decide, by decide⟩, by decide, _, rfl⟩


end Sys2Proof.Tests
end

section
/-! The memory map: unmapped addresses, OAM DMA, the bank-switching controller and ROM reads (spec/20_memory.md R64, R74, R86,
R89-R95; obligations O38 to O41). First one rule per region for a read and a write, then the obligations. -/

namespace Sys2Proof.Machine

/-! ## Reads and writes, by the region an address falls in -/

theorem busDecode_boot {a : Word} (h : a.toNat < 0x100) : busDecode true a = .boot a.toNat := by
  simp [busDecode, h]

theorem busDecode_cart {ov : Bool} {a : Word} (hov : ov = false ∨ 0x100 ≤ a.toNat) (h : a.toNat < 0x8000) :
    busDecode ov a = .cart a.toNat := by
  have hboot : ¬ (a.toNat < 0x100 ∧ ov = true) := by
    rintro ⟨hlow, rfl⟩
    simp at hov
    omega
  simp only [busDecode, if_neg hboot, if_pos h]

theorem busDecode_unmapped {ov : Bool} {a : Word} (h1 : 0xFEA0 ≤ a.toNat) (h2 : a.toNat < 0xFF00) :
    busDecode ov a = .unmapped := by
  unfold busDecode
  dsimp only
  split_ifs <;> first | omega | rfl

/-- An address that the decoder sends to OAM is 0xFE00 plus its index there. -/
theorem toNat_of_busDecode_oam {ov : Bool} {a : Word} {o : Nat} (h : busDecode ov a = .oam o) :
    a.toNat = 0xFE00 + o ∧ o < 160 := by
  have hr := busDecode_inRange ov a
  rw [h] at hr
  refine ⟨?_, hr⟩
  unfold busDecode at h
  dsimp only at h
  split_ifs at h
  simp only [Region.oam.injEq] at h
  omega

theorem memRead_boot {s : State} {a : Word} (hov : s.bus.overlay = true) (h : a.toNat < 0x100) :
    memRead s a = Memory.get s.bus.boot a.toNat := by
  simp only [memRead, hov, busDecode_boot h]

theorem memRead_cart {s : State} {a : Word} (hov : s.bus.overlay = false ∨ 0x100 ≤ a.toNat) (h : a.toNat < 0x8000) :
    memRead s a = cartRead s.cart a.toNat := by
  simp only [memRead, busDecode_cart hov h]

theorem memRead_io (s : State) {a : Word} (h1 : 0xFF00 ≤ a.toNat) (h2 : a.toNat < 0xFF80) :
    memRead s a = ioRead s (a.toNat - 0xFF00) := by
  simp only [memRead, busDecode_io h1 h2]

theorem memWrite_io (s : State) {a : Word} (v : Byte) (h1 : 0xFF00 ≤ a.toNat) (h2 : a.toNat < 0xFF80) :
    memWrite s a v = ioWrite s (a.toNat - 0xFF00) v := by
  simp only [memWrite, busDecode_io h1 h2]

/-- Writes below 0x8000 reach the cartridge port, under the overlay too (R65). -/
theorem memWrite_cart (s : State) {a : Word} (v : Byte) (h : a.toNat < 0x8000) :
    memWrite s a v = { s with cart := cartWrite s.params.mbc1ModeWrite s.cart a.toNat v } := by
  by_cases hov : s.bus.overlay = false ∨ 0x100 ≤ a.toNat
  · simp only [memWrite, busDecode_cart hov h]
  · simp only [not_or, Bool.not_eq_false, not_le] at hov
    obtain ⟨hon, hlow⟩ := hov
    simp only [memWrite, hon, busDecode_boot hlow]

/-! ## Unmapped addresses (R74) -/

/-- The offsets from 0xFF00 at which no register stands (R74). 0xFF50 is not among them: a write there has an effect. -/
def UnmappedIo (o : Nat) : Prop :=
  o = 0x03 ∨ (0x08 ≤ o ∧ o ≤ 0x0E) ∨ (0x10 ≤ o ∧ o ≤ 0x3F) ∨ (0x4C ≤ o ∧ o ≤ 0x4F) ∨ (0x51 ≤ o ∧ o ≤ 0x7F)

theorem ioRead_unmapped (s : State) {o : Nat} (h : UnmappedIo o) : ioRead s o = 0xFF := by
  unfold UnmappedIo at h
  unfold ioRead
  split
  case h_21 => rfl
  all_goals omega

theorem ioWrite_unmapped (s : State) {o : Nat} (v : Byte) (h : UnmappedIo o) : ioWrite s o v = s := by
  unfold UnmappedIo at h
  unfold ioWrite
  split
  case h_21 => rfl
  all_goals omega

/-- Settles O38: an unmapped address lies in the gap above OAM or is an I/O offset without a register. -/
theorem unmappedAccess : Obligations.UnmappedAccess := by
  intro s a v h
  rw [← BitVec.toNat_inj, show (0xFF03 : Word).toNat = 0xFF03 from rfl] at h
  have hcases : (0xFEA0 ≤ a.toNat ∧ a.toNat < 0xFF00) ∨
      (0xFF00 ≤ a.toNat ∧ a.toNat < 0xFF80 ∧ UnmappedIo (a.toNat - 0xFF00)) := by
    unfold UnmappedIo
    omega
  rcases hcases with ⟨h1, h2⟩ | ⟨h1, h2, hio⟩
  · simp only [memRead, memWrite, busDecode_unmapped h1 h2, and_self]
  · rw [memRead_io s h1 h2, memWrite_io s v h1 h2]
    exact ⟨ioRead_unmapped s hio, ioWrite_unmapped s v hio⟩

/-! ## OAM DMA (R95) -/

theorem memWrite_dma (s : State) (v : Byte) : memWrite s 0xFF46 v = dmaWrite s v := by
  have h : busDecode s.bus.overlay 0xFF46 = .io 0x46 := busDecode_io (by simp) (by simp)
  simp only [memWrite, h, ioWrite]

theorem dmaSource_eq (v : Byte) (i : Nat) : (v ++ 0x00#8) + BitVec.ofNat 16 i = BitVec.ofNat 16 (256 * v.toNat + i) := by
  have hv : v ++ 0x00#8 = BitVec.ofNat 16 (256 * v.toNat) := by
    apply BitVec.eq_of_toNat_eq
    have := v.isLt
    rw [BitVec.toNat_append, Nat.shiftLeft_eq, BitVec.toNat_ofNat, BitVec.toNat_ofNat, Nat.zero_mod, Nat.or_zero]
    omega
  rw [hv, BitVec.ofNat_add]

/-- The `i`-th source byte depends on OAM at most through OAM's own byte `i` (the source page 0xFE). -/
theorem memRead_dmaSource_congr (s : State) (v : Byte) {i : Nat} (hi : i < 160) {m : Memory}
    (hm : Memory.get m i = Memory.get s.bus.oam i) :
    memRead { s with bus := { s.bus with oam := m } } (BitVec.ofNat 16 (256 * v.toNat + i)) =
      memRead s (BitVec.ofNat 16 (256 * v.toNat + i)) := by
  have hv := v.isLt
  unfold memRead
  dsimp only
  split
  case h_6 o ho =>
    obtain ⟨ha, ho160⟩ := toNat_of_busDecode_oam ho
    rw [BitVec.toNat_ofNat] at ha
    obtain rfl : o = i := by omega
    exact hm
  all_goals rfl

/-- After the first `n` bytes of the copy: the bytes below `n` are their sources as read before the copy began, and the others are
untouched. -/
theorem dmaRange_get (s : State) (v : Byte) {n : Nat} (hn : n ≤ 160) (i : Nat) :
    Memory.get ((List.range n).foldl (dmaByte v) s).bus.oam i =
      if i < n then memRead s (BitVec.ofNat 16 (256 * v.toNat + i)) else Memory.get s.bus.oam i := by
  induction n generalizing i with
  | zero => rfl
  | succ n ih =>
    have hsource : memRead ((List.range n).foldl (dmaByte v) s) (BitVec.ofNat 16 (256 * v.toNat + n)) =
        memRead s (BitVec.ofNat 16 (256 * v.toNat + n)) := by
      rw [dmaFold_frame]
      exact memRead_dmaSource_congr s v hn (by rw [ih (by omega), if_neg (Nat.lt_irrefl n)])
    rw [List.range_succ, List.foldl_append, List.foldl_cons, List.foldl_nil]
    simp only [dmaByte, Memory.get_set, dmaSource_eq, hsource]
    rcases Nat.lt_trichotomy i n with h | rfl | h
    · rw [if_neg (by omega), ih (by omega), if_pos h, if_pos (by omega)]
    · rw [if_pos rfl, if_pos (by omega)]
    · rw [if_neg (by omega), ih (by omega), if_neg (by omega), if_neg (by omega)]

/-- Settles O39: the copy's frame, and its bytes by induction on how many are copied. -/
theorem oamDma : Obligations.OamDma := by
  intro s v
  rw [memWrite_dma]
  exact ⟨dmaWrite_frame s v, fun i hi => (dmaRange_get _ v (Nat.le_refl 160) i).trans (if_pos hi)⟩

/-! ## The bank-switching controller (R89 to R93) -/

section
variable {c : Cart} {o : Nat} (m : Config.Mbc1ModeWrite) (v : Byte)

theorem cartWrite_unbanked (hb : c.banked = false) : cartWrite m c o v = c := by
  simp only [cartWrite, hb, if_true]

theorem cartWrite_ramEnable (hb : c.banked = true) (h : o < 0x2000) :
    cartWrite m c o v = { c with ramEnable := decide (v.toNat % 16 = 10) } := by
  simp only [cartWrite, hb, Bool.true_eq_false, if_false, if_pos h]

theorem cartWrite_romBankLow (hb : c.banked = true) (h1 : 0x2000 ≤ o) (h2 : o < 0x4000) :
    cartWrite m c o v = { c with romBank := skipBank (c.romBank &&& 0x60 ||| (v &&& 0x1F).setWidth 7) } := by
  simp only [cartWrite, hb, Bool.true_eq_false, if_false, Nat.not_lt.2 h1, if_pos h2]

/-- The window 0x4000-0x5FFF, for both values of the mode register. -/
theorem cartWrite_bankHigh (hb : c.banked = true) (h1 : 0x4000 ≤ o) (h2 : o < 0x6000) :
    cartWrite m c o v = if c.bankMode then { c with ramBank := v.setWidth 2 }
      else { c with romBank := skipBank (c.romBank &&& 0x1F ||| (v &&& 0x03).setWidth 7 <<< 5) } := by
  have h : ¬ o < 0x2000 := by omega
  simp only [cartWrite, hb, Bool.true_eq_false, if_false, if_neg h, Nat.not_lt.2 h1, if_pos h2]

/-- The window 0x6000-0x7FFF, for both values of P_MBC1_MODE_WRITE. -/
theorem cartWrite_bankMode (hb : c.banked = true) (h : 0x6000 ≤ o) :
    cartWrite m c o v = { c with bankMode := if m = .bit0 then v.getLsbD 0 else !c.bankMode } := by
  have h2 : ¬ o < 0x2000 := by omega
  have h4 : ¬ o < 0x4000 := by omega
  simp only [cartWrite, hb, Bool.true_eq_false, if_false, if_neg h2, if_neg h4, Nat.not_lt.2 h]
  cases m <;> rfl

end

theorem toNat_replaceLowBits (b : BitVec 7) (v : Byte) :
    (b &&& 0x60 ||| (v &&& 0x1F).setWidth 7).toNat = 32 * (b.toNat / 32) + v.toNat % 32 := by
  have hhigh : (b &&& 0x60).toNat = 32 * (b.toNat / 32) := by
    revert b
    decide
  have hlow : ((v &&& 0x1F).setWidth 7).toNat = v.toNat % 32 := by
    have h31 : (v &&& 0x1F).toNat = v.toNat % 32 := Nat.and_two_pow_sub_one_eq_mod v.toNat 5
    rw [BitVec.toNat_setWidth, h31]
    omega
  rw [BitVec.toNat_or, hhigh, hlow]
  exact (Nat.two_pow_add_eq_or_of_lt (i := 5) (Nat.mod_lt _ (by decide)) _).symm

theorem toNat_replaceHighBits (b : BitVec 7) (v : Byte) :
    (b &&& 0x1F ||| (v &&& 0x03).setWidth 7 <<< 5).toNat = 32 * (v.toNat % 4) + b.toNat % 32 := by
  have hlow : (b &&& (0x1F : Nat)).toNat = b.toNat % 32 := Nat.and_two_pow_sub_one_eq_mod b.toNat 5
  have hhigh : ((v &&& 0x03).setWidth 7 <<< 5).toNat = 32 * (v.toNat % 4) := by
    have h3 : (v &&& 0x03).toNat = v.toNat % 4 := Nat.and_two_pow_sub_one_eq_mod v.toNat 2
    rw [BitVec.toNat_shiftLeft, BitVec.toNat_setWidth, h3, Nat.shiftLeft_eq]
    omega
  rw [BitVec.toNat_or, hhigh, hlow, Nat.or_comm]
  exact (Nat.two_pow_add_eq_or_of_lt (i := 5) (Nat.mod_lt _ (by decide)) _).symm

/-- R91's skip rule on the bank's number. -/
theorem skipBank_of_toNat {b : BitVec 7} {n : Nat} (h : b.toNat = n) :
    skipBank b = BitVec.ofNat 7 (if n % 32 = 0 then n + 1 else n) := by
  subst h
  unfold skipBank
  split_ifs
  · rw [BitVec.ofNat_add, BitVec.ofNat_toNat, BitVec.setWidth_eq]
    rfl
  · rw [BitVec.ofNat_toNat, BitVec.setWidth_eq]

/-- Settles O40: a write below 0x8000 is the controller's write to its window. -/
theorem cartridgeController : Obligations.CartridgeController := by
  intro s a v ha skip old
  rw [memWrite_cart s v ha]
  refine ⟨fun hb => ?_, fun hb => ⟨fun h => ?_, fun h1 h2 => ?_, fun h1 h2 hm => ?_, fun h1 h2 hm => ?_, fun h hp => ?_,
    fun h hp => ?_⟩⟩
  · rw [cartWrite_unbanked _ v hb]
  · rw [cartWrite_ramEnable _ v hb h]
  · rw [cartWrite_romBankLow _ v hb h1 h2, skipBank_of_toNat (toNat_replaceLowBits s.cart.romBank v)]
  · rw [cartWrite_bankHigh _ v hb h1 h2, if_neg (by simp [hm]), skipBank_of_toNat (toNat_replaceHighBits s.cart.romBank v)]
  · rw [cartWrite_bankHigh _ v hb h1 h2, if_pos hm, BitVec.setWidth_eq_extractLsb' (by decide)]
  · rw [cartWrite_bankMode _ v hb h, if_pos hp]
  · rw [cartWrite_bankMode _ v hb h, if_neg (by simp [hp])]

/-! ## ROM reads (R86) -/

theorem cartRead_of_image {c : Cart} {im : Image} (h : c.image = some im) (o : Nat) :
    cartRead c o = Memory.get im.bytes (c.romIndex im o) := by
  simp only [cartRead, h]

theorem romIndex_direct {c : Cart} {im : Image} {o : Nat} (h : Memory.get im.bytes 0x147 = 0 ∨ o < 0x4000) :
    c.romIndex im o = o := if_pos h

theorem romIndex_banked {c : Cart} {im : Image} {o : Nat} (ht : Memory.get im.bytes 0x147 ≠ 0) (h : 0x4000 ≤ o) :
    c.romIndex im o = c.romBank.toNat % (im.size / 0x4000) * 0x4000 + (o - 0x4000) :=
  if_neg (not_or.2 ⟨ht, Nat.not_lt.2 h⟩)

/-- Settles O41: the boot buffer under the overlay, and otherwise the image at the index the controller selects. -/
theorem romReads : Obligations.RomReads := by
  intro s im a him ha
  refine ⟨memRead_boot, fun hov => ?_⟩
  rw [memRead_cart hov ha, cartRead_of_image him]
  exact ⟨fun h => by rw [romIndex_direct h], fun ht h => by rw [romIndex_banked ht h]⟩

end Sys2Proof.Machine
end

section
/-! Loads, stores and POP (spec/40_load_store.md R150-R174; obligations O10 to O15). First the encodings and meanings of the forms with a
register field, by the values of the field; then the addresses and the HL step of the forms on A; then the obligations. A row of the opcode
table is read off the maps of R134, the encoder and the cost rows, once its register field is fixed. -/

namespace Sys2Proof.Machine

/-! ## The forms with a register field (R122, R123) -/

theorem row_ldRegReg (dst src : Reg8) : Row [0b01#2 ++ dst.code ++ src.code] (.ldRegReg dst src) 4 4 := by
  cases dst <;> cases src <;> exact ⟨rfl, rfl, rfl⟩

theorem exec_ldRegReg (dst src : Reg8) (s : State) :
    exec (.ldRegReg dst src) s = .next (retired (.ldRegReg dst src) (ldRegReg dst src s)) := by
  cases dst <;> cases src <;> rfl

theorem row_ldRegImm (dst : Reg8) (n : Byte) : Row [0b00#2 ++ dst.code ++ 0b110#3, n] (.ldRegImm dst n) 8 8 := by
  cases dst <;> exact ⟨rfl, rfl, rfl⟩

theorem exec_ldRegImm (dst : Reg8) (n : Byte) (s : State) :
    exec (.ldRegImm dst n) s = .next (retired (.ldRegImm dst n) (ldRegImm dst n s)) := by
  cases dst <;> rfl

theorem row_ldRegAtHL (dst : Reg8) : Row [0b01#2 ++ dst.code ++ 0b110#3] (.ldRegAtHL dst) 8 8 := by
  cases dst <;> exact ⟨rfl, rfl, rfl⟩

theorem exec_ldRegAtHL (dst : Reg8) (s : State) :
    exec (.ldRegAtHL dst) s = .next (retired (.ldRegAtHL dst) (loadReg dst s.cpu.hl s)) := by
  cases dst <;> rfl

theorem row_ldAtHLReg (r : Reg8) : Row [0b01110#5 ++ r.code] (.ldAtHLReg r) 8 8 := by
  cases r <;> exact ⟨rfl, rfl, rfl⟩

theorem exec_ldAtHLReg (r : Reg8) (s : State) :
    exec (.ldAtHLReg r) s = .next (retired (.ldAtHLReg r) (storeReg r s.cpu.hl s)) := by
  cases r <;> rfl

/-- A word operand is decoded from its low byte and then its high byte (R60, R128). -/
theorem decode_opWord {b0 : Byte} {mk : Word → Instr} (h : primaryEntry b0 = .opWord mk) (nn : Word) :
    decode (b0 :: immBytes nn) = .ok (mk nn) := by
  have hlen : operandCount b0 ≤ (immBytes nn).length := by simp only [operandCount, h]; exact Nat.le_refl 2
  have hword : decodeWith b0 (fun k => (immBytes nn).getD k 0) = mk (hiByte nn ++ loByte nn) := by simp only [decodeWith, h]; rfl
  rw [decode, if_pos hlen, hword, hiByte_append_loByte]

theorem row_ldPairImm (p : Reg16) (nn : Word) :
    Row ((0b00#2 ++ p.code ++ 0b0001#4) :: immBytes nn) (.ldPairImm p nn) 12 12 := by
  cases p <;> exact ⟨decode_opWord rfl nn, rfl, rfl⟩

theorem exec_ldPairImm (p : Reg16) (nn : Word) (s : State) :
    exec (.ldPairImm p nn) s = .next (retired (.ldPairImm p nn) (s.setPair p nn)) := by
  cases p <;> rfl

theorem row_pop (q : Stk16) : Row [0b11#2 ++ q.code ++ 0b0001#4] (.pop q) 12 12 := by
  cases q <;> exact ⟨rfl, rfl, rfl⟩

theorem exec_pop (q : Stk16) (s : State) : exec (.pop q) s =
    .next (retired (.pop q) (s.withCpu (Cpu.setStk { s.cpu with sp := s.cpu.sp + 2 } q (popped s)))) := by
  cases q <;> rfl

/-! ## Addresses and the HL step -/

/-- The high page's address is the byte 0xFF followed by the operand (R164 to R167). -/
theorem highPage_eq (n : Byte) : highPage n = 0xFF#8 ++ n := by
  revert n
  decide

/-- LD (HL±),A: HL moves from its value before the write, which touches no register (R172, R173). -/
theorem storeAStep_eq (delta : Word) (s : State) :
    storeAStep delta s = (memWrite s s.cpu.hl s.cpu.a).withCpu (s.cpu.setHL (s.cpu.hl + delta)) := by
  simp only [storeAStep, storeReg, State.setHL, memWrite_cpu, Cpu.getReg]

theorem hiByte_popped (s : State) : hiByte (popped s) = memRead s (s.cpu.sp + 1) := hiByte_append _ _

theorem loByte_popped (s : State) : loByte (popped s) = memRead s s.cpu.sp := loByte_append _ _

/-! ## The obligations -/

/-- Settles O10: the rows and meanings of the three families. -/
theorem registerLoads : Obligations.RegisterLoads :=
  ⟨fun dst src => ⟨row_ldRegReg dst src, exec_ldRegReg dst src⟩, fun dst n => ⟨row_ldRegImm dst n, exec_ldRegImm dst n⟩,
    fun dst => ⟨row_ldRegAtHL dst, exec_ldRegAtHL dst⟩⟩

/-- Settles O11: LD (HL),r by the register, and LD (HL),n by its row. -/
theorem storesThroughHL : Obligations.StoresThroughHL :=
  ⟨fun r => ⟨row_ldAtHLReg r, exec_ldAtHLReg r⟩, fun _ => ⟨⟨rfl, rfl, rfl⟩, fun _ => rfl⟩⟩

/-- Settles O12: each load's row and meaning; the high page's address and the step down are brought to the rule's form. -/
theorem accumulatorLoads : Obligations.AccumulatorLoads := by
  refine ⟨⟨⟨rfl, rfl, rfl⟩, fun s => rfl⟩,
    ⟨⟨rfl, rfl, rfl⟩, fun s => rfl⟩,
    fun nn => ⟨⟨decode_opWord rfl nn, rfl, rfl⟩, fun s => rfl⟩,
    fun n => ⟨⟨rfl, rfl, rfl⟩, fun s => ?ldh_a_atn⟩,
    ⟨⟨rfl, rfl, rfl⟩, fun s => ?ld_a_atC⟩,
    ⟨⟨rfl, rfl, rfl⟩, fun s => rfl⟩,
    ⟨⟨rfl, rfl, rfl⟩, fun s => ?ld_a_atHLd⟩⟩
  case ldh_a_atn =>
    rw [← highPage_eq]
    rfl
  case ld_a_atC =>
    rw [← highPage_eq]
    rfl
  case ld_a_atHLd =>
    intro hl
    rw [BitVec.sub_eq_add_neg]
    rfl

/-- Settles O13: each store's row and meaning; the high page's address and the HL step are brought to the rule's form. -/
theorem accumulatorStores : Obligations.AccumulatorStores := by
  refine ⟨⟨⟨rfl, rfl, rfl⟩, fun s => rfl⟩,
    ⟨⟨rfl, rfl, rfl⟩, fun s => rfl⟩,
    fun nn => ⟨⟨decode_opWord rfl nn, rfl, rfl⟩, fun s => rfl⟩,
    fun n => ⟨⟨rfl, rfl, rfl⟩, fun s => ?ldh_atn_a⟩,
    ⟨⟨rfl, rfl, rfl⟩, fun s => ?ld_atC_a⟩,
    ⟨⟨rfl, rfl, rfl⟩, fun s => ?ld_atHLi_a⟩,
    ⟨⟨rfl, rfl, rfl⟩, fun s => ?ld_atHLd_a⟩⟩
  case ldh_atn_a =>
    rw [← highPage_eq]
    rfl
  case ld_atC_a =>
    rw [← highPage_eq]
    rfl
  case ld_atHLi_a =>
    change exec .ld_atHLi_a s = .next (retired _ ((memWrite s s.cpu.hl s.cpu.a).withCpu (s.cpu.setHL (s.cpu.hl + 1))))
    rw [← storeAStep_eq]
    rfl
  case ld_atHLd_a =>
    change exec .ld_atHLd_a s = .next (retired _ ((memWrite s s.cpu.hl s.cpu.a).withCpu (s.cpu.setHL (s.cpu.hl - 1))))
    rw [BitVec.sub_eq_add_neg, ← storeAStep_eq]
    rfl

/-- Settles O14: LD rr,nn by the pair, and the other two by their rows. -/
theorem sixteenBitLoads : Obligations.SixteenBitLoads :=
  ⟨fun p nn => ⟨row_ldPairImm p nn, exec_ldPairImm p nn⟩, fun nn => ⟨⟨decode_opWord rfl nn, rfl, rfl⟩, fun _ => rfl⟩,
    ⟨rfl, rfl, rfl⟩, fun _ => rfl⟩

/-- Settles O15: the popped word goes to the pair, and its two bytes are those at SP + 1 and SP. -/
theorem popResults : Obligations.PopResults := by
  refine ⟨row_pop, fun s => ?_⟩
  rw [← hiByte_popped, ← loByte_popped]
  exact ⟨exec_pop .bc s, exec_pop .de s, exec_pop .hl s, exec_pop .af s⟩

end Sys2Proof.Machine
end

section
/-! 8-bit arithmetic and logic (spec/41_alu8.md R180-R196; obligations O18 to O21 and O23). First the encodings and meanings of the forms
with an operand field; then the results and flags in the rules' own terms; then the obligations. -/

namespace Sys2Proof.Machine

/-! ## The forms with an operand field (R122, R125) -/

theorem row_alu (o : AluOp) (x : R8) :
    Row [0b10#2 ++ o.code ++ x.code] (.alu o x) (if x = .atHL then 8 else 4) (if x = .atHL then 8 else 4) := by
  cases x with
  | reg r => cases o <;> cases r <;> exact ⟨rfl, rfl, rfl⟩
  | atHL => cases o <;> exact ⟨rfl, rfl, rfl⟩

theorem row_aluImm (o : AluOp) (n : Byte) : Row [0b11#2 ++ o.code ++ 0b110#3, n] (.aluImm o n) 8 8 := by
  cases o <;> exact ⟨rfl, rfl, rfl⟩

theorem exec_alu (o : AluOp) (x : R8) (s : State) :
    exec (.alu o x) s = .next (retired (.alu o x) (aluOp o (s.readR8 x) s)) := by
  cases x with
  | reg r => cases o <;> cases r <;> rfl
  | atHL => cases o <;> rfl

theorem exec_aluImm (o : AluOp) (n : Byte) (s : State) :
    exec (.aluImm o n) s = .next (retired (.aluImm o n) (aluOp o n s)) := by
  cases o <;> rfl

/-- Every operand form of an accumulator operation runs the one shared operation (R180). -/
theorem exec_aluForm {o : AluOp} {i : Instr} {s : State} {v : Byte} (h : AluForm o i s v) :
    exec i s = .next (retired i (aluOp o v s)) := by
  obtain ⟨x, rfl, rfl⟩ | rfl := h
  · exact exec_alu o x s
  · exact exec_aluImm o v s

theorem row_incReg (r : Reg8) : Row [0b00#2 ++ r.code ++ 0b100#3] (.incR8 (.reg r)) 4 4 := by
  cases r <;> exact ⟨rfl, rfl, rfl⟩

theorem row_decReg (r : Reg8) : Row [0b00#2 ++ r.code ++ 0b101#3] (.decR8 (.reg r)) 4 4 := by
  cases r <;> exact ⟨rfl, rfl, rfl⟩

theorem exec_incR8 (x : R8) (s : State) : exec (.incR8 x) s = .next (retired (.incR8 x) (incOp x s)) := by
  cases x with
  | reg r => cases r <;> rfl
  | atHL => rfl

theorem exec_decR8 (x : R8) (s : State) : exec (.decR8 x) s = .next (retired (.decR8 x) (decOp x s)) := by
  cases x with
  | reg r => cases r <;> rfl
  | atHL => rfl

/-! ## The forms without an operand (R193 to R196) -/

theorem exec_daa (s : State) : exec .daa s = .next (retired .daa (daaOp s)) := rfl

theorem exec_cpl (s : State) : exec .cpl s = .next (retired .cpl (cplOp s)) := rfl

theorem exec_scf (s : State) : exec .scf s = .next (retired .scf (scfOp s)) := rfl

theorem exec_ccf (s : State) : exec .ccf s = .next (retired .ccf (ccfOp s)) := rfl

/-! ## The writes of A, of an operand and of F -/

theorem setFlags_eq (s : State) (g : Flags) :
    s.setFlags g = { s with cpu := { s.cpu with f := flagByte g.z g.n g.h g.c } } := by
  rw [State.setFlags, toByte_eq]
  rfl

theorem setA_setFlags_eq (s : State) (v : Byte) (g : Flags) :
    (s.setReg .a v).setFlags g = { s with cpu := { s.cpu with a := v, f := flagByte g.z g.n g.h g.c } } :=
  setFlags_eq _ g

theorem writeReg_setFlags_eq (s : State) (r : Reg8) (v : Byte) (g : Flags) :
    (s.writeR8 (.reg r) v).setFlags g = { s with cpu := { s.cpu.setReg r v with f := flagByte g.z g.n g.h g.c } } :=
  setFlags_eq _ g

theorem writeAtHL_setFlags_eq (s : State) (v : Byte) (g : Flags) :
    (s.writeR8 .atHL v).setFlags g =
      { memWrite s s.cpu.hl v with cpu := { s.cpu with f := flagByte g.z g.n g.h g.c } } := by
  rw [State.writeR8, setFlags_eq, memWrite_cpu]

theorem aluOp_eq (o : AluOp) (v : Byte) (s : State) :
    aluOp o v s =
      let r := aluResult o s.cpu.a v s.cpu.flags
      { s with cpu := { s.cpu with a := r.1, f := flagByte r.2.z r.2.n r.2.h r.2.c } } :=
  setA_setFlags_eq s _ _

/-! ## Results and flags -/

/-- A narrowed integer is zero where 256 divides the integer: how Z is read off the exact sum or difference. -/
theorem ofInt_eq_zero_iff (r : Int) : BitVec.ofInt 8 r = 0 ↔ r % 256 = 0 := by
  rw [← BitVec.toNat_inj, BitVec.toNat_ofInt]
  change (r % 256).toNat = 0 ↔ _
  omega

theorem lowNibble_eq_mod (v : Byte) : lowNibble v = (v.toNat : Int) % 16 := Int.natCast_mod _ _

/-- R181 and R182, on integers. -/
theorem addFlags_eq (a v : Byte) (c : Int) :
    let r : Int := a.toNat + v.toNat + c
    addFlags a v c = (BitVec.ofInt 8 r,
      ⟨decide (r % 256 = 0), false, decide ((a.toNat : Int) % 16 + (v.toNat : Int) % 16 + c > 15), decide (r > 255)⟩) := by
  simp only [addFlags, lowNibble_eq_mod, ofInt_eq_zero_iff]

/-- R183, R184 and R188, on integers. -/
theorem subFlags_eq (a v : Byte) (c : Int) :
    let r : Int := a.toNat - v.toNat - c
    subFlags a v c = (BitVec.ofInt 8 r,
      ⟨decide (r % 256 = 0), true, decide ((a.toNat : Int) % 16 - (v.toNat : Int) % 16 - c < 0), decide (r < 0)⟩) := by
  simp only [subFlags, lowNibble_eq_mod, ofInt_eq_zero_iff]

/-- R189: H is set where the low nibble of v is full, read as a natural number. -/
theorem incResult_eq (v : Byte) (g : Flags) :
    incResult v g = (v + 1, ⟨decide (v + 1 = 0), false, decide (v.toNat % 16 = 15), g.c⟩) := by
  have hH : lowNibble v = 0xF ↔ v.toNat % 16 = 15 := Int.natCast_inj (n := 15)
  simp only [incResult, hH]

/-- R191: H is set where the low nibble of v is empty, read as a natural number. -/
theorem decResult_eq (v : Byte) (g : Flags) :
    decResult v g = (v - 1, ⟨decide (v - 1 = 0), true, decide (v.toNat % 16 = 0), g.c⟩) := by
  have hH : lowNibble v = 0x0 ↔ v.toNat % 16 = 0 := Int.natCast_inj (n := 0)
  simp only [decResult, hH]

/-- The two corrections of DAA, added one after the other, are one sum narrowed at the end. -/
theorem daa_add_corrections (a : Byte) (high low : Bool) :
    (if low then (if high then a + 0x60 else a) + 0x06 else if high then a + 0x60 else a) =
      BitVec.ofNat 8 (a.toNat + (if high then 0x60 else 0) + (if low then 0x06 else 0)) := by
  cases high <;> cases low <;> simp [BitVec.ofNat_add]

/-- The two corrections of DAA, subtracted one after the other, are one difference narrowed at the end. -/
theorem daa_sub_corrections (a : Byte) (high low : Bool) :
    (if low then (if high then a - 0x60 else a) - 0x06 else if high then a - 0x60 else a) =
      BitVec.ofInt 8 ((a.toNat : Int) - (if high then 0x60 else 0) - (if low then 0x06 else 0)) := by
  cases high <;> cases low <;> simp [Int.sub_eq_add_neg, BitVec.sub_eq_add_neg, BitVec.ofInt_add]

/-- R193 after an addition (N clear). -/
theorem daaResult_of_not_n (a : Byte) {g : Flags} (hn : g.n = false) :
    let high := g.c || decide (a.toNat > 0x99)
    let low := g.h || decide (a.toNat % 16 > 9)
    let r : Byte := BitVec.ofNat 8 (a.toNat + (if high then 0x60 else 0) + (if low then 0x06 else 0))
    daaResult a g = (r, ⟨decide (r = 0), g.n, false, high⟩) := by
  have hlow : lowNibble a > 0x9 ↔ a.toNat % 16 > 9 := Int.ofNat_lt (n := 9)
  simp only [daaResult, hn, Bool.false_eq_true, if_false, hlow, daa_add_corrections]

/-- R193 after a subtraction (N set). -/
theorem daaResult_of_n (a : Byte) {g : Flags} (hn : g.n = true) :
    let r : Byte := BitVec.ofInt 8 ((a.toNat : Int) - (if g.c then 0x60 else 0) - (if g.h then 0x06 else 0))
    daaResult a g = (r, ⟨decide (r = 0), g.n, false, g.c⟩) := by
  simp only [daaResult, hn, if_true, daa_sub_corrections]

/-! ## The obligations -/

/-- Settles O18: the rows, then each operation by its sum or difference on integers; ADD, SUB and CP carry nothing in. -/
theorem addSubtractCompare : Obligations.AddSubtractCompare := by
  refine ⟨fun o _ _ _ => ⟨row_alu o, row_aluImm o⟩, fun s i v =>
    ⟨fun h => ?add, fun h => ?adc, fun h => ?sub, fun h => ?sbc, fun h => ?cp⟩⟩
  case add => simp only [exec_aluForm h, aluOp_eq, aluResult, addFlags_eq, add_zero]
  case adc =>
    simp only [exec_aluForm h, aluOp_eq, aluResult, addFlags_eq]
    rfl
  case sub => simp only [exec_aluForm h, aluOp_eq, aluResult, subFlags_eq, sub_zero]
  case sbc =>
    simp only [exec_aluForm h, aluOp_eq, aluResult, subFlags_eq]
    rfl
  case cp => simp only [exec_aluForm h, aluOp_eq, aluResult, subFlags_eq, sub_zero, sub_neg]

/-- Settles O19: the rows, then each operation by the shared one. -/
theorem logicOperations : Obligations.LogicOperations := by
  refine ⟨fun o _ => ⟨row_alu o, row_aluImm o⟩, fun s i v => ⟨fun h => ?and, fun h => ?xor, fun h => ?or⟩⟩
  all_goals
    rw [exec_aluForm h, aluOp_eq]
    rfl

/-- Settles O20: each form by its operand, a register or the byte at HL. -/
theorem incrementDecrement : Obligations.IncrementDecrement := by
  refine ⟨fun r => ⟨row_incReg r, row_decReg r, fun s => ⟨?incReg, ?decReg⟩⟩,
    ⟨rfl, rfl, rfl⟩, ⟨rfl, rfl, rfl⟩, fun s => ⟨?incAtHL, ?decAtHL⟩⟩
  case incReg =>
    rw [exec_incR8, incOp, incResult_eq, writeReg_setFlags_eq]
    rfl
  case decReg =>
    rw [exec_decR8, decOp, decResult_eq, writeReg_setFlags_eq]
    rfl
  case incAtHL =>
    refine (exec_incR8 .atHL s).trans ?_
    rw [incOp, incResult_eq, writeAtHL_setFlags_eq]
    rfl
  case decAtHL =>
    refine (exec_decR8 .atHL s).trans ?_
    rw [decOp, decResult_eq, writeAtHL_setFlags_eq]
    rfl

/-- Settles O21: the row, then DAA's result by N. -/
theorem decimalAdjust : Obligations.DecimalAdjust := by
  refine ⟨⟨rfl, rfl, rfl⟩, fun s => ⟨fun hn => ?_, fun hn => ?_⟩⟩
  · rw [exec_daa, daaOp, daaResult_of_not_n s.cpu.a hn, setA_setFlags_eq]
    rfl
  · rw [exec_daa, daaOp, daaResult_of_n s.cpu.a hn, setA_setFlags_eq]
    rfl

/-- Settles O23: the rows, and each meaning by the flags it writes. -/
theorem flagInstructions : Obligations.FlagInstructions := by
  refine ⟨⟨rfl, rfl, rfl⟩, ⟨rfl, rfl, rfl⟩, ⟨rfl, rfl, rfl⟩, fun s => ⟨?cpl, ?scf, ?ccf⟩⟩
  case cpl =>
    rw [exec_cpl, cplOp, setA_setFlags_eq]
    rfl
  case scf =>
    rw [exec_scf, scfOp, setFlags_eq]
    rfl
  case ccf =>
    rw [exec_ccf, ccfOp, setFlags_eq]
    rfl

end Sys2Proof.Machine
end

section
/-! 16-bit arithmetic (spec/42_alu16.md R210-R214; obligations O24 and O25). First the encodings and meanings of the forms with a pair
field; then the results in the rules' own terms; then the obligations. -/

namespace Sys2Proof.Machine

/-! ## The forms with a pair field (R123) -/

theorem row_addHL (p : Reg16) : Row [0b00#2 ++ p.code ++ 0b1001#4] (.addHL p) 8 8 := by
  cases p <;> exact ⟨rfl, rfl, rfl⟩

theorem row_incPair (p : Reg16) : Row [0b00#2 ++ p.code ++ 0b0011#4] (.incPair p) 8 8 := by
  cases p <;> exact ⟨rfl, rfl, rfl⟩

theorem row_decPair (p : Reg16) : Row [0b00#2 ++ p.code ++ 0b1011#4] (.decPair p) 8 8 := by
  cases p <;> exact ⟨rfl, rfl, rfl⟩

theorem exec_addHL (p : Reg16) (s : State) : exec (.addHL p) s = .next (retired (.addHL p) (addHLOp p s)) := by
  cases p <;> rfl

theorem exec_incPair (p : Reg16) (s : State) : exec (.incPair p) s = .next (retired (.incPair p) (incPairOp p s)) := by
  cases p <;> rfl

theorem exec_decPair (p : Reg16) (s : State) : exec (.decPair p) s = .next (retired (.decPair p) (decPairOp p s)) := by
  cases p <;> rfl

/-! ## The forms on SP and a signed byte -/

theorem exec_add_sp_e (e : Byte) (s : State) : exec (.add_sp_e e) s = .next (retired (.add_sp_e e) (addSpOp e s)) := rfl

theorem exec_ld_hl_sp_e (e : Byte) (s : State) :
    exec (.ld_hl_sp_e e) s = .next (retired (.ld_hl_sp_e e) (ldHLSpOp e s)) := rfl

/-! ## The writes of HL or SP, and of F -/

theorem setHL_setFlags_eq (s : State) (v : Word) (g : Flags) :
    (s.setHL v).setFlags g =
      { s with cpu := { s.cpu with h := hiByte v, l := loByte v, f := flagByte g.z g.n g.h g.c } } :=
  setFlags_eq _ g

theorem setSp_setFlags_eq (s : State) (v : Word) (g : Flags) :
    (s.setSp v).setFlags g = { s with cpu := { s.cpu with sp := v, f := flagByte g.z g.n g.h g.c } } :=
  setFlags_eq _ g

/-! ## Results -/

/-- R210: the sum is made on exact naturals and narrowed at the end. -/
theorem addHLResult_eq (h v : Word) (g : Flags) :
    addHLResult h v g = (BitVec.ofNat 16 (h.toNat + v.toNat),
      ⟨g.z, false, decide (h.toNat % 4096 + v.toNat % 4096 > 0xFFF), decide (h.toNat + v.toNat > 0xFFFF)⟩) := by
  rw [BitVec.ofNat_add, BitVec.ofNat_toNat, BitVec.ofNat_toNat, BitVec.setWidth_eq, BitVec.setWidth_eq]
  rfl

/-- The sign-extended byte is added as the signed integer it stands for (R10). -/
theorem add_sext16 (sp : Word) (e : Byte) : sp + sext16 e = BitVec.ofInt 16 (sp.toNat + e.toInt) := by
  rw [BitVec.ofInt_add, BitVec.ofInt_natCast, BitVec.ofNat_toNat, BitVec.setWidth_eq]
  rfl

/-- R213 and R214: a signed sum, whose H and C are those of the unsigned low bytes. -/
theorem spPlusResult_eq (sp : Word) (e : Byte) :
    spPlusResult sp e = (BitVec.ofInt 16 (sp.toNat + e.toInt),
      ⟨false, false, decide (sp.toNat % 16 + e.toNat % 16 > 15), decide (sp.toNat % 256 + e.toNat > 255)⟩) := by
  rw [spPlusResult, add_sext16]

/-! ## The obligations -/

/-- Settles O24: the rows and meanings by the pair, and ADD HL,rr by its exact sum. -/
theorem pairArithmetic : Obligations.PairArithmetic := by
  refine fun p => ⟨row_addHL p, row_incPair p, row_decPair p, fun s => ⟨?_, exec_incPair p s, exec_decPair p s⟩⟩
  rw [exec_addHL, addHLOp, addHLResult_eq, setHL_setFlags_eq]
  rfl

/-- Settles O25: the rows, and both meanings by the one signed sum. -/
theorem stackPointerOffsets : Obligations.StackPointerOffsets := by
  refine fun e => ⟨⟨rfl, rfl, rfl⟩, ⟨rfl, rfl, rfl⟩, fun s => ⟨?add_sp_e, ?ld_hl_sp_e⟩⟩
  case add_sp_e => rw [exec_add_sp_e, addSpOp, spPlusResult_eq, setSp_setFlags_eq]
  case ld_hl_sp_e =>
    rw [exec_ld_hl_sp_e, ldHLSpOp, spPlusResult_eq, setHL_setFlags_eq]
    rfl

end Sys2Proof.Machine
end

section
/-! Rotates and shifts (spec/43_rotate_shift.md R230-R242; obligations O26 and O27). First the encodings and meanings of the prefixed
forms; then the results and flags in the rules' own terms; then the obligations. -/

namespace Sys2Proof.Machine

/-! ## The prefixed forms (R121, R122, R126) -/

/-- A prefixed instruction's row: its default cost is the one its second byte has in the extended map. -/
theorem row_prefixed {b1 : Byte} {i : Instr} {t n : Nat} (hdec : decode [0xCB, b1] = .ok i)
    (henc : ∀ l, encode l i = [0xCB, b1]) (hcost : extendedCost b1.toNat = ⟨t, n⟩) : Row [0xCB, b1] i t n := by
  refine ⟨hdec, henc .two, ?_⟩
  have hidx : opcodeIndex i = 0x100 + b1.toNat := by simp [opcodeIndex, henc]
  rw [hidx, ← hcost]
  simp [opcodeCost, defaultCost, Config.Params.default]

theorem row_rot (o : RotOp) (x : R8) :
    Row [0xCB, 0b00#2 ++ o.code ++ x.code] (.rot o x) (if x = .atHL then 16 else 8) (if x = .atHL then 16 else 8) := by
  cases x with
  | reg r => cases o <;> cases r <;> exact row_prefixed rfl (fun _ => rfl) rfl
  | atHL => cases o <;> exact row_prefixed rfl (fun _ => rfl) rfl

theorem exec_rot (o : RotOp) (x : R8) (s : State) :
    exec (.rot o x) s = .next (retired (.rot o x) (rotOpr o x s)) := by
  cases x with
  | reg r => cases o <;> cases r <;> rfl
  | atHL => cases o <;> rfl

/-! ## The one-byte forms -/

theorem exec_rlca (s : State) : exec .rlca s = .next (retired .rlca (accRotOpr .rlca s)) := rfl

theorem exec_rrca (s : State) : exec .rrca s = .next (retired .rrca (accRotOpr .rrca s)) := rfl

theorem exec_rla (s : State) : exec .rla s = .next (retired .rla (accRotOpr .rla s)) := rfl

theorem exec_rra (s : State) : exec .rra s = .next (retired .rra (accRotOpr .rra s)) := rfl

/-! ## Results and flags -/

/-- The rules write a rotated bit as a slice of length 1, the model as a Boolean. -/
theorem ofBool_getLsbD {w : Nat} (v : BitVec w) (n : Nat) : BitVec.ofBool (v.getLsbD n) = v.extractLsb' n 1 := by
  ext i hi
  obtain rfl : i = 0 := by omega
  simp

/-- Z is the result's only where P_ACC_ROTATE_Z says so. -/
theorem accRotFlags_eq (p : Config.AccRotateZ) (res : Byte) (out : Bool) :
    accRotFlags p res out = ⟨decide (p = .fromResult) && decide (res = 0), false, false, out⟩ := by
  cases p <;> rfl

theorem accRotOpr_eq (k : AccRot) (s : State) :
    accRotOpr k s =
      let r := rotResult (accRotOp k) s.cpu.a s.cpu.flagC
      { s with cpu := { s.cpu with
        a := r.1, f := flagByte (decide (s.params.accRotateZ = .fromResult) && decide (r.1 = 0)) false false r.2 } } := by
  rw [accRotOpr, accRotFlags_eq, setA_setFlags_eq]

theorem rotOpr_reg {o : RotOp} {r : Reg8} {s : State} {res : Byte} {out : Bool}
    (h : rotResult o (s.cpu.getReg r) s.cpu.flagC = (res, out)) :
    rotOpr o (.reg r) s =
      { s with cpu := { s.cpu.setReg r res with f := flagByte (decide (res = 0)) false false out } } := by
  rw [rotOpr, State.readR8, h, writeReg_setFlags_eq]
  rfl

theorem rotOpr_atHL {o : RotOp} {s : State} {res : Byte} {out : Bool}
    (h : rotResult o (memRead s s.cpu.hl) s.cpu.flagC = (res, out)) :
    rotOpr o .atHL s =
      { memWrite s s.cpu.hl res with cpu := { s.cpu with f := flagByte (decide (res = 0)) false false out } } := by
  rw [rotOpr, State.readR8, h, writeAtHL_setFlags_eq]
  rfl

/-! ## The obligations -/

/-- Settles O26: the rows, then each rotate by the operation it shares with the prefixed group. -/
theorem accumulatorRotates : Obligations.AccumulatorRotates := by
  refine ⟨⟨rfl, rfl, rfl⟩, ⟨rfl, rfl, rfl⟩, ⟨rfl, rfl, rfl⟩, ⟨rfl, rfl, rfl⟩, fun s => ⟨?rlca, ?rrca, ?rla, ?rra⟩⟩
  case rlca =>
    rw [exec_rlca, accRotOpr_eq, ← ofBool_getLsbD]
    rfl
  case rrca =>
    rw [exec_rrca, accRotOpr_eq, ← ofBool_getLsbD]
    rfl
  case rla =>
    rw [exec_rla, accRotOpr_eq]
    rfl
  case rra =>
    rw [exec_rra, accRotOpr_eq]
    rfl

/-- Settles O27: the rows, then the operand, a register or the byte at HL, by the operation's result on it. -/
theorem prefixedRotates : Obligations.PrefixedRotates := by
  refine ⟨row_rot, fun s o v res out hres => ?_⟩
  have hrot : rotResult o v s.cpu.flagC = (res, out) := by
    cases o
    all_goals
      obtain ⟨rfl, rfl⟩ := hres
      simp only [rotResult, Cpu.flagC, ofBool_getLsbD]
  refine ⟨fun r hv => ?reg, fun hv => ?atHL⟩
  case reg =>
    subst hv
    rw [exec_rot, rotOpr_reg hrot]
  case atHL =>
    subst hv
    refine (exec_rot o .atHL s).trans ?_
    rw [rotOpr_atHL hrot]
    rfl

end Sys2Proof.Machine
end

section
/-! Single bits (spec/44_bit.md R260-R262; obligation O28). First the encodings and meanings of the three groups; then the flags of BIT;
then the obligation. -/

namespace Sys2Proof.Machine

/-! ## The prefixed forms (R121, R122, R127) -/

theorem row_bitTest (b : Idx8) (x : R8) :
    Row [0xCB, 0b01#2 ++ b.code ++ x.code] (.bitTest b x) (if x = .atHL then 12 else 8) (if x = .atHL then 12 else 8) := by
  cases x with
  | reg r => cases b <;> cases r <;> exact row_prefixed rfl (fun _ => rfl) rfl
  | atHL => cases b <;> exact row_prefixed rfl (fun _ => rfl) rfl

theorem row_bitRes (b : Idx8) (x : R8) :
    Row [0xCB, 0b10#2 ++ b.code ++ x.code] (.bitRes b x) (if x = .atHL then 16 else 8) (if x = .atHL then 16 else 8) := by
  cases x with
  | reg r => cases b <;> cases r <;> exact row_prefixed rfl (fun _ => rfl) rfl
  | atHL => cases b <;> exact row_prefixed rfl (fun _ => rfl) rfl

theorem row_bitSet (b : Idx8) (x : R8) :
    Row [0xCB, 0b11#2 ++ b.code ++ x.code] (.bitSet b x) (if x = .atHL then 16 else 8) (if x = .atHL then 16 else 8) := by
  cases x with
  | reg r => cases b <;> cases r <;> exact row_prefixed rfl (fun _ => rfl) rfl
  | atHL => cases b <;> exact row_prefixed rfl (fun _ => rfl) rfl

theorem exec_bitTest (b : Idx8) (x : R8) (s : State) :
    exec (.bitTest b x) s = .next (retired (.bitTest b x) (bitOpr b x s)) := by
  cases x with
  | reg r => cases b <;> cases r <;> rfl
  | atHL => cases b <;> rfl

theorem exec_bitRes (b : Idx8) (x : R8) (s : State) :
    exec (.bitRes b x) s = .next (retired (.bitRes b x) (resOpr b x s)) := by
  cases x with
  | reg r => cases b <;> cases r <;> rfl
  | atHL => cases b <;> rfl

theorem exec_bitSet (b : Idx8) (x : R8) (s : State) :
    exec (.bitSet b x) s = .next (retired (.bitSet b x) (setOpr b x s)) := by
  cases x with
  | reg r => cases b <;> cases r <;> rfl
  | atHL => cases b <;> rfl

/-! ## The flags of BIT -/

/-- BIT writes F alone: Z from the tested bit, C as it was (R260). -/
theorem bitOpr_eq (b : Idx8) (x : R8) (s : State) :
    bitOpr b x s =
      { s with cpu := { s.cpu with f := flagByte (!(s.readR8 x).getLsbD b.val) false true (s.cpu.f.getLsbD 4) } } :=
  setFlags_eq s _

/-! ## The obligation -/

/-- Settles O28: the rows, then each operation by its meaning on the operand, a register or the byte at HL. -/
theorem bitOperations : Obligations.BitOperations := by
  refine ⟨fun b x => ⟨row_bitTest b x, row_bitRes b x, row_bitSet b x⟩, fun s b => ⟨fun r => ?reg, ?atHL⟩⟩
  case reg =>
    refine ⟨?_, exec_bitRes b (.reg r) s, exec_bitSet b (.reg r) s⟩
    rw [exec_bitTest, bitOpr_eq]
    rfl
  case atHL =>
    refine ⟨?_, exec_bitRes b .atHL s, exec_bitSet b .atHL s⟩
    rw [exec_bitTest, bitOpr_eq]
    rfl

end Sys2Proof.Machine
end

section
/-! Control transfer (spec/45_control.md R270-R283; obligations O29 to O31). First what a conditional transfer answers, said once for all of
them; then the encodings and meanings of the forms with a condition or a restart field, by the values of the field; then the call's stack in
the rule's own form; then the obligations. -/

namespace Sys2Proof.Machine

/-- A conditional transfer that is taken does what the transfer does, at the taken cost; one that is not taken changes the reported cost
alone (R129, R270). -/
theorem retireCond_onCond (i : Instr) (taken : Bool) (f : State → State) (s : State) :
    retireCond (opcodeIndex i) taken (onCond taken f s) =
      .next (if taken then retired i (f s) else retiredNotTaken i s) := by
  cases taken with
  | true => rfl
  | false => rfl

/-! ## The forms with a condition field (R124, R270) -/

theorem row_jpCond (cc : Cond) (nn : Word) :
    Row ((0b110#3 ++ cc.code ++ 0b010#3) :: immBytes nn) (.jpCond cc nn) 16 12 := by
  cases cc <;> exact ⟨decode_opWord rfl nn, rfl, rfl⟩

theorem exec_jpCond (cc : Cond) (nn : Word) (s : State) :
    exec (.jpCond cc nn) s =
      .next (if s.cpu.cond cc then retired (.jpCond cc nn) (jumpTo nn s) else retiredNotTaken (.jpCond cc nn) s) := by
  rw [← retireCond_onCond]
  cases cc <;> rfl

theorem row_jrCond (cc : Cond) (e : Byte) : Row [0b001#3 ++ cc.code ++ 0b000#3, e] (.jrCond cc e) 12 8 := by
  cases cc <;> exact ⟨rfl, rfl, rfl⟩

theorem exec_jrCond (cc : Cond) (e : Byte) (s : State) :
    exec (.jrCond cc e) s =
      .next (if s.cpu.cond cc then retired (.jrCond cc e) (jumpRel e s) else retiredNotTaken (.jrCond cc e) s) := by
  rw [← retireCond_onCond]
  cases cc <;> rfl

theorem row_callCond (cc : Cond) (nn : Word) :
    Row ((0b110#3 ++ cc.code ++ 0b100#3) :: immBytes nn) (.callCond cc nn) 24 12 := by
  cases cc <;> exact ⟨decode_opWord rfl nn, rfl, rfl⟩

theorem exec_callCond (cc : Cond) (nn : Word) (s : State) :
    exec (.callCond cc nn) s =
      .next (if s.cpu.cond cc then retired (.callCond cc nn) (callTo nn s) else retiredNotTaken (.callCond cc nn) s) := by
  rw [← retireCond_onCond]
  cases cc <;> rfl

theorem row_retCond (cc : Cond) : Row [0b110#3 ++ cc.code ++ 0b000#3] (.retCond cc) 20 8 := by
  cases cc <;> exact ⟨rfl, rfl, rfl⟩

theorem exec_retCond (cc : Cond) (s : State) :
    exec (.retCond cc) s =
      .next (if s.cpu.cond cc then retired (.retCond cc) (returnOp s) else retiredNotTaken (.retCond cc) s) := by
  rw [← retireCond_onCond]
  cases cc <;> rfl

/-! ## Calls and restarts (R127, R276, R283) -/

theorem exec_call_nn (nn : Word) (s : State) : exec (.call_nn nn) s = .next (retired (.call_nn nn) (callTo nn s)) := rfl

theorem row_rst (t : Idx8) : Row [0b11#2 ++ t.code ++ 0b111#3] (.rst t) 16 16 := by
  cases t <;> exact ⟨rfl, rfl, rfl⟩

theorem exec_rst (t : Idx8) (s : State) : exec (.rst t) s = .next (retired (.rst t) (callTo (rstTarget t) s)) := by
  cases t <;> rfl

/-- A call stores pc_next below SP and moves SP and PC alone of the processor (R12, R276). -/
theorem callTo_eq (t : Word) (s : State) :
    callTo t s = { pushed s s.cpu.pc with cpu := { s.cpu with sp := s.cpu.sp - 2, pc := t } } := by
  rw [callTo, push16_eq]
  rfl

/-! ## The obligations -/

/-- Settles O29: the conditions are flag bits by their definition; each jump by its row and its meaning, the conditional ones by the
condition. -/
theorem jumps : Obligations.Jumps :=
  ⟨fun _ => ⟨rfl, rfl, rfl, rfl⟩, fun nn => ⟨⟨decode_opWord rfl nn, rfl, rfl⟩, fun _ => rfl⟩,
    fun cc nn => ⟨row_jpCond cc nn, exec_jpCond cc nn⟩, ⟨⟨rfl, rfl, rfl⟩, fun _ => rfl⟩,
    fun _ => ⟨⟨rfl, rfl, rfl⟩, fun _ => rfl⟩, fun cc e => ⟨row_jrCond cc e, exec_jrCond cc e⟩⟩

/-- Settles O30: each form's row, and its meaning with the call's stack in the rule's form. -/
theorem callsAndRestarts : Obligations.CallsAndRestarts := by
  refine ⟨fun nn => ⟨⟨decode_opWord rfl nn, rfl, rfl⟩, fun s => ?call⟩, fun cc nn => ⟨row_callCond cc nn, fun s => ?callCond⟩,
    fun t => ⟨row_rst t, fun s => ?rst⟩⟩
  case call => rw [exec_call_nn, callTo_eq]
  case callCond => rw [exec_callCond, callTo_eq]
  case rst => rw [exec_rst, callTo_eq, rstTarget]

/-- Settles O31: RET and RETI by their rows, RET cc by the condition. -/
theorem returns : Obligations.Returns :=
  ⟨⟨⟨rfl, rfl, rfl⟩, fun _ => rfl⟩, fun cc => ⟨row_retCond cc, exec_retCond cc⟩, ⟨rfl, rfl, rfl⟩, fun _ => rfl⟩

end Sys2Proof.Machine
end

section
/-! System instructions and the illegal opcodes (spec/46_system.md R290-R296, spec/60_exceptions.md R310; obligations O8, O32 and O33).
First the extended map by the fields of the second byte, and what its instructions mean; then how an illegal opcode is fetched and what a
recorded fault does to the step; then the obligations. -/

namespace Sys2Proof.Machine

/-! ## The fields of a second byte (R121, R122, R126, R127) -/

theorem code_r8OfCode (r : BitVec 3) : (r8OfCode r).code = r := by
  revert r
  decide

theorem code_rotOfCode (o : BitVec 3) : (rotOfCode o).code = o := by
  revert o
  decide

theorem code_idxOfCode (b : BitVec 3) : (idxOfCode b).code = b := by
  revert b
  decide

/-- A byte is its group of two bits, its middle field and its operand field. -/
theorem eq_append_fields {b1 : Byte} {x : BitVec 2} (h : b1.extractLsb' 6 2 = x) :
    x ++ b1.extractLsb' 3 3 ++ b1.extractLsb' 0 3 = b1 := by
  subst h
  revert b1
  decide

/-! ## The extended map (R130, R134) -/

theorem decode_extended (b1 : Byte) : decode [0xCB, b1] = .ok (extended b1) := rfl

/-- The instruction whose row stands at a second byte is the extended map's entry there. -/
theorem extended_eq_of_row {b b1 : Byte} {i : Instr} {t n : Nat} (h : Row [0xCB, b] i t n) (hb : b = b1) : extended b1 = i := by
  subst hb
  obtain ⟨hdec, -, -⟩ := h
  exact Except.ok.inj ((decode_extended b).symm.trans hdec)

section
variable {b1 : Byte}

theorem extended_rot (h : b1.extractLsb' 6 2 = 0#2) :
    extended b1 = .rot (rotOfCode (b1.extractLsb' 3 3)) (r8OfCode (b1.extractLsb' 0 3)) :=
  extended_eq_of_row (row_rot _ _) (by rw [code_rotOfCode, code_r8OfCode, eq_append_fields h])

theorem extended_bitTest (h : b1.extractLsb' 6 2 = 1#2) :
    extended b1 = .bitTest (idxOfCode (b1.extractLsb' 3 3)) (r8OfCode (b1.extractLsb' 0 3)) :=
  extended_eq_of_row (row_bitTest _ _) (by rw [code_idxOfCode, code_r8OfCode, eq_append_fields h])

theorem extended_bitRes (h : b1.extractLsb' 6 2 = 2#2) :
    extended b1 = .bitRes (idxOfCode (b1.extractLsb' 3 3)) (r8OfCode (b1.extractLsb' 0 3)) :=
  extended_eq_of_row (row_bitRes _ _) (by rw [code_idxOfCode, code_r8OfCode, eq_append_fields h])

theorem extended_bitSet (h : b1.extractLsb' 6 2 = 3#2) :
    extended b1 = .bitSet (idxOfCode (b1.extractLsb' 3 3)) (r8OfCode (b1.extractLsb' 0 3)) :=
  extended_eq_of_row (row_bitSet _ _) (by rw [code_idxOfCode, code_r8OfCode, eq_append_fields h])

end

/-- An extended instruction's place in P_CYCLES (R7). -/
theorem opcodeIndex_extended (b1 : Byte) : opcodeIndex (extended b1) = 0x100 + b1.toNat := by
  revert b1
  decide +kernel

/-- An extended instruction does what the fields of its byte say (R295), by the group of the byte. -/
theorem exec_extended_retired (b1 : Byte) (s : State) :
    exec (extended b1) s = .next (retired (extended b1) (extendedOp b1 s)) := by
  unfold extendedOp
  dsimp only
  split_ifs with h0 h1 h2
  · rw [extended_rot h0, exec_rot]
  · rw [extended_bitTest h1, exec_bitTest]
  · rw [extended_bitRes h2, exec_bitRes]
  · have h3 : b1.extractLsb' 6 2 = 3 := by bv_omega
    rw [extended_bitSet h3, exec_bitSet]

theorem exec_extended (b1 : Byte) (s : State) : exec (extended b1) s = retire (0x100 + b1.toNat) (extendedOp b1 s) := by
  rw [exec_extended_retired, retired, opcodeIndex_extended, retire]

theorem exec_prefix_cb (s : State) :
    exec .prefix_cb s = retire (0x100 + (fetchByte s).toNat) (extendedOp (fetchByte s) (advancePc s)) := rfl

/-! ## The illegal opcodes (R131, R296) -/

theorem primaryEntry_illegal (k : IllegalOp) : primaryEntry k.byte = .op (.illegal k) := by
  cases k <;> rfl

theorem instrLength_illegal (l : Config.StopLen) (k : IllegalOp) : instrLength l k.byte = 1 := by
  cases k <;> rfl

section
variable {s : State} {k : IllegalOp}

theorem fetchInstr_illegal (h : memRead s s.cpu.pc = k.byte) : fetchInstr s = .illegal k := by
  rw [fetchInstr, h, decodeWith, primaryEntry_illegal]

theorem fetched_illegal (h : memRead s s.cpu.pc = k.byte) : fetched s = advancePc s := by
  rw [fetched, fetchLength, h, instrLength_illegal]
  rfl

end

/-- The exception of an opcode just fetched leaves PC at it and records the fault, and nothing else (R310). -/
theorem raiseDecodeError_advancePc (b : Byte) (s : State) :
    raiseDecodeError b (advancePc s) = { s with sys := { s.sys with fault := some ⟨b, s.cpu.pc⟩ } } := by
  simp [raiseDecodeError, advancePc, State.setPc]

/-! ## A recorded fault (R310, R380) -/

theorem afterInstr_of_fault {s : State} {e : DecodeFault} (h : s.sys.fault = some e) : afterInstr s = s := by
  simp only [afterInstr, h]

theorem step_of_fault {s : State} {e : DecodeFault} (hi : s.cart.image ≠ none) (h : s.sys.fault = some e) :
    step s = .fault (.fatalDecodeError e.opcode e.pc) := by
  obtain ⟨im, him⟩ := Option.ne_none_iff_exists'.1 hi
  simp only [step, him, h]

/-- The step that meets an illegal opcode (R310): the peripherals do not advance. -/
theorem step_illegal {s : State} {k : IllegalOp} (hs : Fetches s) (hk : memRead s s.cpu.pc = k.byte) :
    step s = .next { s with sys := { s.sys with dispatchT := 0, fault := some ⟨k.byte, s.cpu.pc⟩ } } := by
  have hk' : memRead (beginStep s) (beginStep s).cpu.pc = k.byte := hk
  have hexec : exec (fetchInstr (beginStep s)) (fetched (beginStep s)) =
      .next { beginStep s with sys := { (beginStep s).sys with fault := some ⟨k.byte, s.cpu.pc⟩ } } := by
    rw [fetchInstr_illegal hk', fetched_illegal hk', exec_illegal, raiseDecodeError_advancePc]
    rfl
  rw [step_fetches hs hexec, afterInstr_of_fault rfl]
  rfl

/-! ## The obligations -/

/-- Settles O8: the exception by the shared meaning of the illegal opcodes, and the stop by the fault it records. -/
theorem illegalOpcodeFreezesTheMachine : Obligations.IllegalOpcodeFreezesTheMachine := by
  refine ⟨fun k => ⟨?decode, exec_illegal k⟩, fun k s hs hk => ⟨_, step_illegal hs hk, rfl, step_of_fault (e := ⟨k.byte, s.cpu.pc⟩) hs.1 rfl⟩⟩
  cases k <;> rfl

/-- Settles O32: each row, and the one control bit that each meaning writes. -/
theorem systemInstructions : Obligations.SystemInstructions :=
  ⟨⟨rfl, rfl, rfl⟩, ⟨rfl, rfl, rfl⟩, ⟨rfl, rfl, rfl⟩, ⟨rfl, rfl, rfl⟩, ⟨rfl, rfl, rfl⟩, fun _ => ⟨rfl, rfl, rfl, rfl, rfl⟩⟩

/-- Settles O33: both instructions have one meaning, that of the second byte's fields. -/
theorem prefixRunsExtendedOpcode : Obligations.PrefixRunsExtendedOpcode := by
  rintro b1 s rfl
  exact ⟨decode_extended _, _, exec_extended _ _, exec_prefix_cb s⟩

end Sys2Proof.Machine
end

section
/-! Interrupts, the video unit and the host's calls (spec/60_exceptions.md sections 2, 4 and 7; obligations O43, O45, O52 and O59). -/

namespace Sys2Proof.Machine

/-! ## The interrupt pass (R322 to R324) -/

section
variable {s : State} {i : IrqSource}

theorem evaluate_of_eligible (hime : s.cpu.ime = true) (h : firstEligible (pendingEnabled s) = some i) :
    evaluate s = dispatched s i.bit i.vector := by
  simp only [evaluate, hime, if_true, h, takeInterrupt_eq]

theorem evaluate_of_none_eligible (hime : s.cpu.ime = true) (h : firstEligible (pendingEnabled s) = none) : evaluate s = s := by
  simp only [evaluate, hime, if_true, h]

theorem evaluate_of_ime_clear (hime : s.cpu.ime = false) :
    evaluate s = if pendingEnabled s ≠ 0 ∧ s.cpu.halted = true then s.withCpu { s.cpu with halted := false } else s := by
  simp only [evaluate, hime, Bool.false_eq_true, if_false]

end

/-- The serial bit alone makes nothing eligible (R322). -/
theorem firstEligible_eq_none {p : BitVec 5} (h : p &&& 0b10111 = 0) : firstEligible p = none := by
  revert p
  decide

/-- Settles O45: with IME set the scan of R322 decides, with IME clear the wake of R324. -/
theorem interruptPass : Obligations.InterruptPass := by
  intro s p
  have hp : pendingEnabled s = p := rfl
  refine ⟨fun hime h0 => ?vblank, fun hime h0 h1 => ?stat, fun hime h0 h1 h2 => ?timer, fun hime h0 h1 h2 h4 => ?joypad,
    fun hime h => ?none, fun hime h hh => ?wake, fun hime h => ?stay⟩
  case vblank => exact evaluate_of_eligible (i := .vblank) hime (by simp only [firstEligible, hp, h0, if_true])
  case stat => exact evaluate_of_eligible (i := .lcdStat) hime (by simp only [firstEligible, hp, h0, h1, Bool.false_eq_true, if_false, if_true])
  case timer => exact evaluate_of_eligible (i := .timer) hime (by simp only [firstEligible, hp, h0, h1, h2, Bool.false_eq_true, if_false, if_true])
  case joypad =>
    exact evaluate_of_eligible (i := .joypad) hime (by simp only [firstEligible, hp, h0, h1, h2, h4, Bool.false_eq_true, if_false, if_true])
  case none => exact evaluate_of_none_eligible hime (firstEligible_eq_none h)
  case wake => exact (evaluate_of_ime_clear hime).trans (if_pos ⟨h, hh⟩)
  case stay =>
    refine (evaluate_of_ime_clear hime).trans (if_neg ?_)
    rintro ⟨hne, hh⟩
    rcases h with h | h
    · exact hne h
    · simp [h] at hh

/-! ## The LY = LYC compare (R350, R356) -/

/-- Bit 6 of STAT as read is the stored enable bit of the compare (R35). -/
theorem statBit_six (u : Video) : statBit u 6 = u.statw.getLsbD 3 := by
  simp only [statBit, statRead, BitVec.getLsbD_append]
  rfl

theorem compareLy_of_eq {s : State} (h : s.video.ly = s.video.lyc) :
    compareLy s = { s with
      video := { s.video with coinc := true }
      irq := { s.irq with ifl := s.irq.ifl ||| (if s.video.statw.getLsbD 3 then 0b00010 else 0) } } := by
  simp only [compareLy, if_pos h, statBit_six, withVideo_video]
  cases s.video.statw.getLsbD 3 with
  | true => rfl
  | false => simp only [Bool.false_eq_true, if_false, BitVec.ofNat_eq_ofNat, BitVec.or_zero, State.withVideo]

theorem compareLy_of_ne {s : State} (h : s.video.ly ≠ s.video.lyc) :
    compareLy s = { s with video := { s.video with coinc := false } } := if_neg h

theorem videoAdvance_enabled {s : State} (n : Nat) (h : s.video.lcdc.getLsbD 7 = true) :
    videoAdvance n s = compareLy (videoCycles n s) := if_pos h

theorem videoAdvance_disabled {s : State} (n : Nat) (h : s.video.lcdc.getLsbD 7 = false) : videoAdvance n s = s :=
  if_neg (Bool.not_eq_true _ ▸ h)

/-- Settles O52: an enabled advance ends in the compare, whose two outcomes are the two clauses. -/
theorem lineCompare : Obligations.LineCompare := by
  refine ⟨fun s n => videoAdvance_disabled n, fun s n hon => ?_⟩
  dsimp only
  rw [videoAdvance_enabled n hon]
  exact ⟨compareLy_of_eq, compareLy_of_ne⟩

/-! ## The LCDC write (R358) -/

theorem memWrite_lcdc (s : State) (v : Byte) : memWrite s 0xFF40 v = { s with video := lcdcWrite s.video v } := by
  have h : busDecode s.bus.overlay 0xFF40 = .io 0x40 := busDecode_io (by simp) (by simp)
  simp only [memWrite, h, ioWrite]

section
variable {u : Video} {v : Byte}

theorem lcdcWrite_disable (hon : u.lcdc.getLsbD 7 = true) (hoff : v.getLsbD 7 = false) :
    lcdcWrite u v = { u with lcdc := v, mode := .hblank, vclock := 0, ly := 0, fbWork := [], fbOut := [] } := by
  simp only [lcdcWrite, hon, hoff, Bool.not_false, Bool.and_self, if_true]

theorem lcdcWrite_enable (hoff : u.lcdc.getLsbD 7 = false) (hon : v.getLsbD 7 = true) :
    lcdcWrite u v = { u with lcdc := v, mode := .oamScan, vclock := 0, ly := 0 } := by
  simp only [lcdcWrite, hon, hoff, Bool.false_and, Bool.not_false, Bool.and_self, Bool.false_eq_true, if_false, if_true]

theorem lcdcWrite_same (h : u.lcdc.getLsbD 7 = v.getLsbD 7) : lcdcWrite u v = { u with lcdc := v } := by
  simp only [lcdcWrite, h, Bool.and_not_self, Bool.not_and_self, Bool.false_eq_true, if_false]

end

/-- Settles O43: the three transitions of the display-enable bit; a frame that lists no pixel is white. -/
theorem lcdcWrite_holds : Obligations.LcdcWrite := by
  intro s v on on'
  simp only [memWrite_lcdc]
  refine ⟨fun hon hoff => ⟨_, rfl, ?_⟩, fun hoff hon => ?_, fun h => ?_⟩
  · rw [lcdcWrite_disable hon hoff]
    exact ⟨rfl, fun y x => ⟨rfl, rfl⟩⟩
  · rw [lcdcWrite_enable hoff hon]
  · rw [lcdcWrite_same h]

/-! ## The host's calls (R390, R395 to R397) -/

theorem validImageSize_iff (n : Nat) : validImageSize n = true ↔ ∃ k, k ≤ 8 ∧ n = 32768 * 2 ^ k := by
  simp only [validImageSize, List.any_eq_true, List.mem_range, beq_iff_eq, Nat.lt_succ_iff]

theorem Image.valid_iff (im : Image) :
    im.valid = true ↔ (∃ n, n ≤ 8 ∧ im.size = 32768 * 2 ^ n) ∧ (Memory.get im.bytes 0x147).toNat ≤ 3 := by
  simp only [Image.valid, Bool.and_eq_true, validImageSize_iff, decide_eq_true_eq]
  rfl

theorem mem_addBreakpoint (pc q : Word) (s : State) :
    q ∈ (addBreakpoint pc s).sys.breakpoints ↔ q = pc ∨ q ∈ s.sys.breakpoints := by
  simp only [addBreakpoint, List.contains_iff_mem]
  split
  case isTrue h => exact ⟨.inr, fun hq => hq.elim (· ▸ h) id⟩
  case isFalse => exact List.mem_cons

theorem mem_removeBreakpoint (pc q : Word) (s : State) :
    q ∈ (removeBreakpoint pc s).sys.breakpoints ↔ q ≠ pc ∧ q ∈ s.sys.breakpoints := by
  simp only [removeBreakpoint, List.mem_filter, bne_iff_ne, and_comm]

theorem memRead_stat (s : State) : memRead s 0xFF41 = statRead s.video := by
  have h : busDecode s.bus.overlay 0xFF41 = .io 0x41 := busDecode_io (by simp) (by simp)
  simp only [memRead, h, ioRead]

/-- Settles O59: each call's own equation, load() by the validity of the image, and the breakpoints as a set. -/
theorem hostCallResults : Obligations.HostCallResults := by
  refine ⟨fun s => rfl, fun pc s => ⟨rfl, rfl, fun q => ⟨mem_addBreakpoint pc q s, mem_removeBreakpoint pc q s⟩⟩, fun s => ?snapshot,
    fun im s => ⟨fun h => ?accepted, fun h => ?rejected, fun bytes => ⟨rfl, fun i hi => Memory.get_ofFn 256 bytes hi⟩⟩⟩
  case snapshot =>
    rw [memRead_stat]
    rfl
  case accepted => exact if_pos ((Image.valid_iff im).2 h)
  case rejected => exact if_neg (mt (Image.valid_iff im).1 h)

end Sys2Proof.Machine
end

section
/-! The compositor (spec/60_exceptions.md R362-R366; obligations O53 and O54). A pass is a fold over columns or sprites; what it does is
followed one pixel at a time. -/

namespace Sys2Proof.Machine

/-! ## Folds seen through one part of the state -/

/-- A fold whose steps keep `I` and act on the part `view` as `g` does, acts on that part as the fold of `g`. -/
theorem foldl_view {σ β ι : Type} {I : σ → Prop} {view : σ → β} {f : σ → ι → σ} {g : β → ι → β} {l : List ι}
    (hf : ∀ w, I w → ∀ i ∈ l, I (f w i) ∧ view (f w i) = g (view w) i) {u : σ} (hu : I u) :
    I (l.foldl f u) ∧ view (l.foldl f u) = l.foldl g (view u) := by
  induction l generalizing u with
  | nil => exact ⟨hu, rfl⟩
  | cons i l ih =>
    obtain ⟨hi, hv⟩ := hf u hu i List.mem_cons_self
    rw [List.foldl_cons, List.foldl_cons, ← hv]
    exact ih (fun w hw j hj => hf w hw j (List.mem_cons_of_mem i hj)) hi

/-- A fold over 0, …, n - 1 in which every step but that of `c` does nothing. -/
theorem foldl_range_single {β : Type} {g : β → Nat → β} {c : Nat} (hg : ∀ b i, i ≠ c → g b i = b) (n : Nat) (b : β) :
    (List.range n).foldl g b = if c < n then g b c else b := by
  induction n with
  | zero => rfl
  | succ n ih =>
    rw [List.range_succ, List.foldl_append, List.foldl_cons, List.foldl_nil, ih]
    rcases Nat.lt_trichotomy c n with h | rfl | h
    · rw [if_pos h, if_pos (by omega), hg _ _ (by omega)]
    · rw [if_neg (Nat.lt_irrefl c), if_pos (Nat.lt_succ_self c)]
    · rw [if_neg (by omega), if_neg (by omega), hg _ _ (by omega)]

/-! ## Pixels and index-buffer columns -/

theorem Sparse.get_set {α : Type} [DecidableEq α] (d : α) (m : List (Nat × α)) (j k : Nat) (v : α) :
    Sparse.get d (Sparse.set d m k v) j = if j = k then v else Sparse.get d m j := by
  split
  case isTrue h => rw [h, Sparse.get_set_self]
  case isFalse h => exact Sparse.get_set_other d m v h

theorem Frame.pixel_put (sh : Config.Shades) (fb : Frame) (p : Config.Rgba) {y y' x x' : Nat} (hx : x < 160) (hx' : x' < 160) :
    Frame.pixel sh (Frame.put sh fb y x p) y' x' = if y' = y ∧ x' = x then p else Frame.pixel sh fb y' x' := by
  have hkey : 160 * y' + x' = 160 * y + x ↔ y' = y ∧ x' = x := by omega
  simp only [Frame.pixel, Frame.put, Sparse.get_set, hkey]

/-- What the background and the window pass write at a column of row y: its index and its pixel. -/
def cell (sh : Config.Shades) (y x : Nat) (u : Video) : BitVec 2 × Config.Rgba :=
  (Sparse.get 0 u.bgidx x, Frame.pixel sh u.fbWork y x)

section
variable (sh : Config.Shades) {y x : Nat} (u : Video)

theorem cell_putIndexed_self (hx : x < 160) (ci : BitVec 2) (p : Config.Rgba) : cell sh y x (putIndexed sh y u x ci p) = (ci, p) := by
  simp only [cell, putIndexed, Sparse.get_set_self, Frame.pixel_put sh u.fbWork p hx hx, and_self, if_true]

theorem cell_putIndexed_other {i : Nat} (hi : i < 160) (hx : x < 160) (hne : i ≠ x) (ci : BitVec 2) (p : Config.Rgba) :
    cell sh y x (putIndexed sh y u i ci p) = cell sh y x u := by
  simp only [cell, putIndexed, Sparse.get_set, Frame.pixel_put sh u.fbWork p hi hx, hne.symm, and_false, if_false]

theorem pixel_putIndexed_other_row {y' i : Nat} (hy : y' ≠ y) (hi : i < 160) (hx : x < 160) (ci : BitVec 2) (p : Config.Rgba) :
    Frame.pixel sh (putIndexed sh y u i ci p).fbWork y' x = Frame.pixel sh u.fbWork y' x := by
  simp only [putIndexed, Frame.pixel_put sh u.fbWork p hi hx, hy, false_and, if_false]

/-- A pass over the columns of row y does to column x what its own step does there, with the registers that the pass began with. -/
theorem cell_foldl_columns {f : Video → Nat → Video} {g : BitVec 2 × Config.Rgba → BitVec 2 × Config.Rgba} (hx : x < 160)
    (hrow : ∀ w i, i < 160 → RowStep sh w (f w i)) (hother : ∀ w i, i < 160 → i ≠ x → cell sh y x (f w i) = cell sh y x w)
    (hself : ∀ w, RowStep sh u w → cell sh y x (f w x) = g (cell sh y x w)) :
    cell sh y x ((List.range 160).foldl f u) = g (cell sh y x u) := by
  have hfold := foldl_view (I := RowStep sh u) (view := cell sh y x) (f := f) (g := fun c i => if i = x then g c else c)
    (l := List.range 160) (fun w hw i hi => by
      have hi := List.mem_range.1 hi
      refine ⟨hw.trans (hrow w i hi), ?_⟩
      by_cases h : i = x
      · rw [if_pos h, h, hself w hw]
      · rw [if_neg h, hother w i hi h]) (.refl sh u)
  rw [hfold.2, foldl_range_single (c := x) (fun _ _ h => if_neg h), if_pos hx, if_pos rfl]

/-- A pass over the columns of row y leaves a pixel of another row alone if every step does. -/
theorem pixel_foldl_columns {f : Video → Nat → Video} {y' : Nat}
    (h : ∀ w i, i < 160 → Frame.pixel sh (f w i).fbWork y' x = Frame.pixel sh w.fbWork y' x) :
    Frame.pixel sh ((List.range 160).foldl f u).fbWork y' x = Frame.pixel sh u.fbWork y' x :=
  List.foldlRecOn (motive := fun w => Frame.pixel sh w.fbWork y' x = Frame.pixel sh u.fbWork y' x) _ f rfl
    (fun w hw i hi => (h w i (List.mem_range.1 hi)).trans hw)

/-! ## The background pass (R363) -/

/-- The background's index at a column of row y (R363). -/
def backgroundIndex (vram : Memory) (y x : Nat) (u : Video) : BitVec 2 :=
  mapPixel u.lcdc vram (mapBase (u.lcdc.getLsbD 3)) ((x + u.scx.toNat) % 256) ((y + u.scy.toNat) % 256)

/-- What the background pass leaves at a column of row y (R363). -/
def backgroundCell (vram : Memory) (y x : Nat) (u : Video) : BitVec 2 × Config.Rgba :=
  if u.lcdc.getLsbD 0 then (backgroundIndex vram y x u, shade sh u.bgp (backgroundIndex vram y x u)) else (0, sh.s0)

variable (vram : Memory)

theorem backgroundPixel_eq :
    backgroundPixel sh vram y u x = putIndexed sh y u x (backgroundCell sh vram y x u).1 (backgroundCell sh vram y x u).2 := by
  unfold backgroundPixel backgroundCell
  split_ifs <;> rfl

theorem RowStep.backgroundCell_eq {sh : Config.Shades} {u w : Video} (h : RowStep sh u w) (vram : Memory) (y x : Nat) :
    backgroundCell sh vram y x w = backgroundCell sh vram y x u := by
  rw [h.1]
  rfl

theorem backgroundPass_cell (hy : y < 144) (hx : x < 160) :
    cell sh y x (backgroundPass sh vram y u) = backgroundCell sh vram y x u := by
  refine cell_foldl_columns sh u (g := fun _ => backgroundCell sh vram y x u) hx (fun w i hi => ?row) (fun w i hi hne => ?other)
    (fun w hw => ?self)
  case row => exact backgroundPixel_eq sh w vram ▸ putIndexed_row sh w _ _ hy hi
  case other => rw [backgroundPixel_eq, cell_putIndexed_other sh w hi hx hne]
  case self => rw [backgroundPixel_eq, cell_putIndexed_self sh w hx, hw.backgroundCell_eq]

theorem backgroundPass_other_row {y' : Nat} (hy : y' ≠ y) (hx : x < 160) :
    Frame.pixel sh (backgroundPass sh vram y u).fbWork y' x = Frame.pixel sh u.fbWork y' x :=
  pixel_foldl_columns sh u fun w i hi => by rw [backgroundPixel_eq, pixel_putIndexed_other_row sh w hy hi hx]

/-! ## The window pass (R364) -/

/-- The window's index at a column of row y (R364). -/
def windowIndex (vram : Memory) (y x : Nat) (u : Video) : BitVec 2 :=
  mapPixel u.lcdc vram (mapBase (u.lcdc.getLsbD 6)) (x + 7 - u.wx.toNat) (y - u.wy.toNat)

/-- What the window pass leaves at a column that the window covers (R364). -/
def windowCell (vram : Memory) (y x : Nat) (u : Video) : BitVec 2 × Config.Rgba :=
  (windowIndex vram y x u, shade sh u.bgp (windowIndex vram y x u))

/-- The window covers column x of row y (R364). -/
abbrev WindowShown (u : Video) (y x : Nat) : Prop := u.lcdc.getLsbD 5 = true ∧ u.wy.toNat ≤ y ∧ u.wx.toNat ≤ x + 7

theorem windowPixel_eq :
    windowPixel sh vram y u x =
      if u.wx.toNat ≤ x + 7 then putIndexed sh y u x (windowCell sh vram y x u).1 (windowCell sh vram y x u).2 else u := rfl

theorem RowStep.windowCell_eq {sh : Config.Shades} {u w : Video} (h : RowStep sh u w) (vram : Memory) (y x : Nat) :
    windowCell sh vram y x w = windowCell sh vram y x u := by
  rw [h.1]
  rfl

theorem RowStep.windowShown_iff {sh : Config.Shades} {u w : Video} (h : RowStep sh u w) (y x : Nat) :
    WindowShown w y x ↔ WindowShown u y x := by
  rw [h.1]

theorem RowStep.wx_eq {sh : Config.Shades} {u w : Video} (h : RowStep sh u w) : w.wx = u.wx := by
  rw [h.1]

theorem windowPass_cell (hy : y < 144) (hx : x < 160) :
    cell sh y x (windowPass sh vram y u) = if WindowShown u y x then windowCell sh vram y x u else cell sh y x u := by
  by_cases hline : u.lcdc.getLsbD 5 = true ∧ u.wy.toNat ≤ y
  · have hshown : WindowShown u y x ↔ u.wx.toNat ≤ x + 7 := by simp only [WindowShown, hline.1, hline.2, true_and]
    rw [windowPass, if_pos hline, if_congr hshown rfl rfl]
    refine cell_foldl_columns sh u (g := fun c => if u.wx.toNat ≤ x + 7 then windowCell sh vram y x u else c) hx (fun w i hi => ?row)
      (fun w i hi hne => ?other) (fun w hw => ?self)
    case row =>
      rw [windowPixel_eq]
      split_ifs
      · exact putIndexed_row sh w _ _ hy hi
      · exact .refl sh w
    case other =>
      rw [windowPixel_eq]
      split_ifs
      · exact cell_putIndexed_other sh w hi hx hne _ _
      · rfl
    case self =>
      rw [windowPixel_eq, hw.wx_eq]
      split_ifs
      · rw [cell_putIndexed_self sh w hx, hw.windowCell_eq]
      · rfl
  · rw [windowPass, if_neg hline, if_neg (fun h : WindowShown u y x => hline ⟨h.1, h.2.1⟩)]

theorem windowPass_other_row {y' : Nat} (hy : y' ≠ y) (hx : x < 160) :
    Frame.pixel sh (windowPass sh vram y u).fbWork y' x = Frame.pixel sh u.fbWork y' x := by
  unfold windowPass
  split_ifs
  · refine pixel_foldl_columns sh u fun w i hi => ?_
    rw [windowPixel_eq]
    split_ifs
    · exact pixel_putIndexed_other_row sh w hy hi hx _ _
    · rfl
  · rfl

/-- Column x of row y after both passes: the window's cell where the window is shown, the background's elsewhere. -/
theorem windowPass_backgroundPass_cell (hy : y < 144) (hx : x < 160) :
    cell sh y x (windowPass sh vram y (backgroundPass sh vram y u)) =
      if WindowShown u y x then windowCell sh vram y x u else backgroundCell sh vram y x u := by
  have hrow : RowStep sh u (backgroundPass sh vram y u) := backgroundPass_row sh vram hy u
  rw [windowPass_cell sh _ vram hy hx, backgroundPass_cell sh u vram hy hx, hrow.windowCell_eq, if_congr (hrow.windowShown_iff y x) rfl rfl]

end

/-- Settles O53: the cell of a column after the two passes, by whether the window is shown and whether the background is on. -/
theorem backgroundAndWindow : Obligations.BackgroundAndWindow := by
  intro sh vram u y x hy hx byte ci bg win w shown
  have hcell : (Sparse.get 0 w.bgidx x, Frame.pixel sh w.fbWork y x) =
      if shown then windowCell sh vram y x u else backgroundCell sh vram y x u := windowPass_backgroundPass_cell sh u vram hy hx
  refine ⟨fun h => ?window, fun h hon => ?background, fun h hoff => ?blank, fun y' x' hx' hne => ?otherRow⟩
  case window =>
    rw [if_pos h] at hcell
    exact Prod.mk.inj hcell
  case background =>
    rw [if_neg h, backgroundCell, if_pos hon] at hcell
    exact Prod.mk.inj hcell
  case blank =>
    rw [if_neg h, backgroundCell, if_neg (Bool.not_eq_true _ ▸ hoff)] at hcell
    exact Prod.mk.inj hcell
  case otherRow =>
    exact (windowPass_other_row sh _ vram hne hx').trans (backgroundPass_other_row sh u vram hne hx')

/-! ## The sprite pass (R365) -/

/-- What the sprite pass may change: the work frame alone. -/
def FrameOnly (u w : Video) : Prop := w = { u with fbWork := w.fbWork }

theorem FrameOnly.refl (u : Video) : FrameOnly u u := rfl

theorem FrameOnly.trans {u v w : Video} (h : FrameOnly u v) (k : FrameOnly v w) : FrameOnly u w := by
  unfold FrameOnly at *
  rw [k, h]

/-- What column `col` of a sprite's row draws at screen column x, if anything (R365). -/
def spriteDot (sh : Config.Shades) (vram : Memory) (ta row : Nat) (fl : Byte) (u : Video) (x col : Nat) : Option Config.Rgba :=
  let ci := tilePixel vram ta (row % 8) (if fl.getLsbD 5 then 7 - col else col)
  if ci ≠ 0 ∧ (fl.getLsbD 7 = false ∨ Sparse.get 0 u.bgidx x = 0) then some (shade sh (if fl.getLsbD 4 then u.obp1 else u.obp0) ci)
  else none

/-- The work frame with a dot drawn at row y, column x, or as it was. -/
def putDot (sh : Config.Shades) (y : Nat) (u : Video) (x : Nat) : Option Config.Rgba → Video
  | some p => { u with fbWork := Frame.put sh u.fbWork y x p }
  | none => u

section
variable {sh : Config.Shades} {vram oam : Memory} {y y' x : Nat}

theorem FrameOnly.spriteDot_eq {u w : Video} (h : FrameOnly u w) (ta row : Nat) (fl : Byte) (x col : Nat) :
    spriteDot sh vram ta row fl w x col = spriteDot sh vram ta row fl u x col := by
  rw [h]
  rfl

theorem FrameOnly.spriteDraws_eq {u w : Video} (h : FrameOnly u w) (i : Nat) :
    spriteDraws sh vram oam w y x i = spriteDraws sh vram oam u y x i := by
  rw [h]
  rfl

theorem putDot_frameOnly (u : Video) (o : Option Config.Rgba) : FrameOnly u (putDot sh y u x o) := by
  cases o <;> rfl

theorem pixel_putDot_self (hx : x < 160) (u : Video) (o : Option Config.Rgba) :
    Frame.pixel sh (putDot sh y u x o).fbWork y x = o.getD (Frame.pixel sh u.fbWork y x) := by
  cases o with
  | none => rfl
  | some p => simp only [putDot, Frame.pixel_put sh u.fbWork p hx hx, and_self, if_true, Option.getD_some]

theorem pixel_putDot_other {X : Nat} (hX : X < 160) (hx : x < 160) (h : ¬(y' = y ∧ x = X)) (u : Video) (o : Option Config.Rgba) :
    Frame.pixel sh (putDot sh y u X o).fbWork y' x = Frame.pixel sh u.fbWork y' x := by
  cases o with
  | none => rfl
  | some p => rw [putDot, Frame.pixel_put sh u.fbWork p hX hx, if_neg h]

/-! ### One sprite -/

section
variable (ta row : Nat) (sx : Int) (fl : Byte) (u : Video)

/-- A column of a sprite draws its dot where it falls inside the screen. -/
theorem spritePixel_eq (col : Nat) :
    spritePixel sh vram y ta row sx fl u col =
      if 0 ≤ sx + col ∧ sx + col < 160 then putDot sh y u (sx + col).toNat (spriteDot sh vram ta row fl u (sx + col).toNat col)
      else u := by
  unfold spritePixel spriteDot
  dsimp only
  split_ifs <;> rfl

theorem spritePixel_frameOnly (col : Nat) : FrameOnly u (spritePixel sh vram y ta row sx fl u col) := by
  rw [spritePixel_eq]
  split_ifs
  · exact putDot_frameOnly u _
  · exact .refl u

theorem pixel_spritePixel_self (hx : x < 160) {col : Nat} (h : sx + col = x) :
    Frame.pixel sh (spritePixel sh vram y ta row sx fl u col).fbWork y x =
      (spriteDot sh vram ta row fl u x col).getD (Frame.pixel sh u.fbWork y x) := by
  rw [spritePixel_eq, h, if_pos (by omega), Int.toNat_natCast, pixel_putDot_self hx]

theorem pixel_spritePixel_other (hx : x < 160) {col : Nat} (h : ¬(y' = y ∧ sx + col = x)) :
    Frame.pixel sh (spritePixel sh vram y ta row sx fl u col).fbWork y' x = Frame.pixel sh u.fbWork y' x := by
  rw [spritePixel_eq]
  split_ifs
  · exact pixel_putDot_other (by omega) hx (by omega) u _
  · rfl

/-- A sprite's eight columns: the one that falls on screen column x, if any, draws its dot there. -/
theorem pixel_foldl_spritePixel (hx : x < 160) :
    FrameOnly u ((List.range 8).foldl (spritePixel sh vram y ta row sx fl) u) ∧
    Frame.pixel sh ((List.range 8).foldl (spritePixel sh vram y ta row sx fl) u).fbWork y x =
      (if 0 ≤ x - sx ∧ x - sx < 8 then spriteDot sh vram ta row fl u x (x - sx).toNat else none).getD
        (Frame.pixel sh u.fbWork y x) := by
  have hfold := foldl_view (I := FrameOnly u) (view := fun w => Frame.pixel sh w.fbWork y x) (f := spritePixel sh vram y ta row sx fl)
    (g := fun p col => if sx + col = x then (spriteDot sh vram ta row fl u x col).getD p else p) (l := List.range 8)
    (fun w hw col _ => by
      refine ⟨hw.trans (spritePixel_frameOnly ta row sx fl w col), ?_⟩
      by_cases h : sx + col = x
      · rw [if_pos h, pixel_spritePixel_self ta row sx fl w hx h, hw.spriteDot_eq]
      · rw [if_neg h, pixel_spritePixel_other ta row sx fl w hx (fun k => h k.2)]) (.refl u)
  refine ⟨hfold.1, hfold.2.trans ?_⟩
  rw [foldl_range_single (c := (x - sx).toNat) (fun p col h => if_neg (by omega))]
  by_cases hin : 0 ≤ x - sx ∧ x - sx < 8
  · rw [if_pos (by omega), if_pos (by omega), if_pos hin]
  · rw [if_neg hin]
    split_ifs
    · omega
    · rfl
    · rfl

end

theorem spriteEntry_pixel (hx : x < 160) (u : Video) (i : Nat) :
    FrameOnly u (spriteEntry sh vram oam y u i) ∧
    Frame.pixel sh (spriteEntry sh vram oam y u i).fbWork y x =
      (spriteDraws sh vram oam u y x i).getD (Frame.pixel sh u.fbWork y x) := by
  unfold spriteEntry spriteDraws
  dsimp only
  split
  case isTrue hline =>
    refine ⟨(pixel_foldl_spritePixel _ _ _ _ u hx).1, (pixel_foldl_spritePixel _ _ _ _ u hx).2.trans ?_⟩
    refine congrArg (Option.getD · _) (if_congr ?_ rfl rfl)
    omega
  case isFalse hline =>
    rw [if_neg (by omega)]
    exact ⟨.refl u, rfl⟩

theorem spriteEntry_other_row (hy : y' ≠ y) (hx : x < 160) (u : Video) (i : Nat) :
    Frame.pixel sh (spriteEntry sh vram oam y u i).fbWork y' x = Frame.pixel sh u.fbWork y' x := by
  unfold spriteEntry
  dsimp only
  split
  case isTrue =>
    exact List.foldlRecOn (motive := fun w => Frame.pixel sh w.fbWork y' x = Frame.pixel sh u.fbWork y' x) _ _ rfl
      (fun w hw col _ => (pixel_spritePixel_other _ _ _ _ w hx (fun h => hy h.1)).trans hw)
  case isFalse => rfl

/-! ### The forty entries -/

/-- Any list of OAM entries: the frame, and the pixel as the last entry that draws there gives it. -/
theorem foldl_spriteEntry (hx : x < 160) (u : Video) (l : List Nat) :
    FrameOnly u (l.foldl (spriteEntry sh vram oam y) u) ∧
    Frame.pixel sh (l.foldl (spriteEntry sh vram oam y) u).fbWork y x =
      l.foldl (fun p i => (spriteDraws sh vram oam u y x i).getD p) (Frame.pixel sh u.fbWork y x) := by
  refine foldl_view (I := FrameOnly u) (view := fun w => Frame.pixel sh w.fbWork y x) (fun w hw i _ => ?_) (.refl u)
  obtain ⟨hframe, hpixel⟩ := spriteEntry_pixel (sh := sh) (vram := vram) (oam := oam) (y := y) hx w i
  exact ⟨hw.trans hframe, by rw [hpixel, hw.spriteDraws_eq]⟩

theorem foldl_spriteEntry_other_row (hy : y' ≠ y) (hx : x < 160) (u : Video) (l : List Nat) :
    Frame.pixel sh (l.foldl (spriteEntry sh vram oam y) u).fbWork y' x = Frame.pixel sh u.fbWork y' x :=
  List.foldlRecOn (motive := fun w => Frame.pixel sh w.fbWork y' x = Frame.pixel sh u.fbWork y' x) _ _ rfl
    (fun w hw i _ => (spriteEntry_other_row hy hx w i).trans hw)

end

/-- Settles O54: with sprites on, the pass is a fold of entries, each of which draws what spriteDraws says; with sprites off, nothing. -/
theorem spritePass_holds : Obligations.SpritePass := by
  intro sh vram oam u y x hx w
  by_cases hon : u.lcdc.getLsbD 1 = true
  · have hw : w = (List.range 40).foldl (spriteEntry sh vram oam y) u := if_pos hon
    rw [hw, if_pos hon]
    obtain ⟨hframe, hpixel⟩ := foldl_spriteEntry (sh := sh) (vram := vram) (oam := oam) (y := y) hx u (List.range 40)
    exact ⟨hframe, hpixel, fun y' hy => foldl_spriteEntry_other_row hy hx u _⟩
  · have hw : w = u := if_neg hon
    rw [hw, if_neg hon]
    exact ⟨rfl, rfl, fun _ _ => rfl⟩

end Sys2Proof.Machine
end

section
/-! Reset (spec/10_state.md R50, spec/70_reset_and_hazards.md R400; obligation O58). Both boot modes set the machine by the one table of
R50, `resetWith`; they differ in the registers, the I/O values and the overlay they give it. -/

namespace Sys2Proof.Machine

/-! ## reset() by P_BOOT_MODE -/

/-- The state with the number of values drawn so far set (assumption 8). -/
def withDraws (n : Nat) (s : State) : State := { s with sys := { s.sys with draws := n } }

theorem hostReset_postBoot {s : State} (h : s.params.bootMode = .postBoot) :
    hostReset s = resetWith (postBootCpu s.params.resetIo) s.params.resetIo false s := by
  simp only [hostReset, h]

theorem hostReset_bootRom {s : State} (h : s.params.bootMode = .bootRom) :
    hostReset s = withDraws (s.sys.draws + bootDraws)
      (resetWith (bootRomCpu s.sys.draws) (drawResetIo (s.sys.draws + 9)) true s) := by
  simp only [hostReset, h, withDraws]

/-- What the two boot modes share: the table of R50, with a processor that is neither halted nor stopped. -/
theorem hostReset_eq_resetWith (s : State) :
    ∃ cpu io overlay n, cpu.halted = false ∧ cpu.stopped = false ∧ hostReset s = withDraws n (resetWith cpu io overlay s) := by
  cases h : s.params.bootMode with
  | postBoot => exact ⟨_, _, _, s.sys.draws, rfl, rfl, hostReset_postBoot h⟩
  | bootRom => exact ⟨_, _, _, _, rfl, rfl, hostReset_bootRom h⟩

/-! ## The table of R50 -/

section
variable (cpu : Cpu) (io : Config.ResetIo) (overlay : Bool) (s : State)

theorem resetWith_coinc : (resetWith cpu io overlay s).video.coinc = true ↔ io.lyc = 0 := decide_eq_true_iff

theorem resetWith_buttons (k : Button) : (resetWith cpu io overlay s).joypad.buttons.get k = false := by
  cases k <;> rfl

/-- Both frames are empty, so each of their pixels is shade 0. -/
theorem resetWith_frames (sh : Config.Shades) (y x : Nat) :
    Frame.pixel sh (resetWith cpu io overlay s).video.fbWork y x = sh.s0 ∧
    Frame.pixel sh (resetWith cpu io overlay s).video.fbOut y x = sh.s0 := ⟨rfl, rfl⟩

end

/-- Settles O58: each boot mode gives the table of R50 its own values, and the rest is what the table does in either mode. -/
theorem resetLeaves : Obligations.ResetLeaves := by
  refine ⟨fun s hpost => ?_, fun s hrom => ?_, fun s => ?_⟩
  · rw [hostReset_postBoot hpost]
    simp [resetWith, postBootCpu]
  · rw [hostReset_bootRom hrom]
    exact ⟨rfl, rfl, rfl⟩
  · obtain ⟨cpu, io, overlay, n, hhalted, hstopped, hreset⟩ := hostReset_eq_resetWith s
    rw [hreset]
    exact ⟨hhalted, hstopped, rfl, rfl, rfl, rfl, rfl, rfl, resetWith_coinc cpu io overlay s, rfl, rfl, rfl, rfl,
      resetWith_buttons cpu io overlay s, resetWith_frames cpu io overlay s s.params.shades,
      rfl, rfl, rfl, rfl, rfl, rfl, rfl, rfl, rfl⟩

end Sys2Proof.Machine
end

section
/-! Encoding (spec/30_encoding.md R120-R134; obligations O1 to O4). First what the decoder reads of a byte string; then the encoder against the
primary map, entry by entry, and the decoder against the encoder, instruction by instruction; then the obligations. -/

namespace Sys2Proof.Machine

/-! ## The decoder (R120, R129) -/

theorem operandCount_le (b0 : Byte) : operandCount b0 ≤ 2 := by
  unfold operandCount
  split <;> omega

theorem instrLength_one (b0 : Byte) : instrLength .one b0 = 1 + operandCount b0 := by
  unfold instrLength
  split
  case isTrue h =>
    subst h
    rfl
  case isFalse => rfl

theorem instrLength_bounds (l : Config.StopLen) (b0 : Byte) : 1 ≤ instrLength l b0 ∧ instrLength l b0 ≤ 3 := by
  have := operandCount_le b0
  unfold instrLength
  cases l <;> dsimp only <;> split <;> omega

/-- The decoder's answer, by whether the operands are there (R120, R133). -/
theorem decode_cons (b0 : Byte) (rest : List Byte) :
    decode (b0 :: rest) = if operandCount b0 ≤ rest.length then .ok (decodeWith b0 (fun k => rest.getD k 0))
      else if b0 = 0xCB then .ok .prefix_cb else .error (.missingOperand b0) := rfl

theorem decode_of_operands {b0 : Byte} {operands : List Byte} (h : operandCount b0 ≤ operands.length) :
    decode (b0 :: operands) = .ok (decodeWith b0 (fun k => operands.getD k 0)) := if_pos h

/-- The bytes read, one index after the other, are the first bytes of the string. -/
theorem map_getD_range_prefix {α : Type} (d : α) {xs : List α} {n : Nat} (h : n ≤ xs.length) :
    (List.range n).map (fun k => xs.getD k d) <+: xs := by
  refine List.prefix_iff_eq_take.2 (List.ext_getElem (by simp [h]) fun k h1 h2 => ?_)
  have hk : k < xs.length := by simp at h1; omega
  simp [hk]

/-- The decoder reads no byte past the operands that the opcode byte asks for (R120). -/
theorem decodeWith_congr {b0 : Byte} {f g : Nat → Byte} (h : ∀ k, k < operandCount b0 → f k = g k) :
    decodeWith b0 f = decodeWith b0 g := by
  unfold operandCount at h
  unfold decodeWith
  split <;> rename_i he <;> simp only [he] at h
  · rfl
  · rw [h 0 (by decide)]
  · rw [h 0 (by decide), h 1 (by decide)]
  · rw [h 0 (by decide)]

/-! ## The primary map against the encoder (R134) -/

/-- The encoder writes the instruction that an entry of the primary map makes of a word, or of the word's low byte, as the opcode byte of the
entry followed by that operand. -/
def EntryMatches (nn : Word) (b0 : Byte) : Entry → Prop
  | .op i => encode .one i = [b0]
  | .opByte mk => encode .one (mk (loByte nn)) = [b0, loByte nn]
  | .opWord mk => encode .one (mk nn) = b0 :: immBytes nn
  | .cbPrefix => b0 = 0xCB

/-- The entries of a part of the primary map match the opcode bytes from `k` on. -/
def EntriesMatch (nn : Word) : Nat → List Entry → Prop
  | _, [] => True
  | k, e :: es => EntryMatches nn (BitVec.ofNat 8 k) e ∧ EntriesMatch nn (k + 1) es

theorem entriesMatch_append (nn : Word) (k : Nat) (es fs : List Entry) :
    EntriesMatch nn k (es ++ fs) ↔ EntriesMatch nn k es ∧ EntriesMatch nn (k + es.length) fs := by
  induction es generalizing k with
  | nil => simp [EntriesMatch]
  | cons e es ih => simp only [List.cons_append, EntriesMatch, ih, and_assoc, List.length_cons, Nat.add_assoc, Nat.add_comm 1]

theorem EntriesMatch.getD {nn : Word} {k : Nat} {es : List Entry} (h : EntriesMatch nn k es) {j : Nat} (hj : j < es.length) (d : Entry) :
    EntryMatches nn (BitVec.ofNat 8 (k + j)) (es.getD j d) := by
  induction es generalizing k j with
  | nil => simp at hj
  | cons e es ih =>
    cases j with
    | zero => exact h.1
    | succ j =>
      rw [Nat.add_comm j 1, ← Nat.add_assoc, Nat.add_comm 1 j]
      exact ih h.2 (Nat.lt_of_succ_lt_succ hj)

theorem primaryMap_length : primaryMap.length = 256 := by decide +kernel

theorem primaryMap_matches (nn : Word) : EntriesMatch nn 0 primaryMap := by
  simp only [primaryMap, entriesMatch_append, List.length_append, Nat.zero_add, and_assoc]
  refine ⟨?_, ?_, ?_, ?_, ?_, ?_, ?_, ?_, ?_, ?_, ?_, ?_, ?_, ?_, ?_, ?_⟩
  all_goals exact ⟨rfl, rfl, rfl, rfl, rfl, rfl, rfl, rfl, rfl, rfl, rfl, rfl, rfl, rfl, rfl, rfl, trivial⟩

theorem primaryEntry_matches (nn : Word) (b0 : Byte) : EntryMatches nn b0 (primaryEntry b0) := by
  have h := (primaryMap_matches nn).getD (j := b0.toNat) (primaryMap_length ▸ b0.isLt) (.op .nop)
  rwa [Nat.zero_add, BitVec.ofNat_toNat, BitVec.setWidth_eq] at h

theorem encode_extended (l : Config.StopLen) (b1 : Byte) : encode l (extended b1) = [0xCB, b1] := by
  cases l
  all_goals
    revert b1
    decide +kernel

theorem immBytes_append (hi lo : Byte) : immBytes (hi ++ lo) = [lo, hi] := by
  change [loByte (hi ++ lo), hiByte (hi ++ lo)] = _
  rw [loByte_append, hiByte_append]

/-- Encoding what the decoder reads gives the opcode byte and the operands it asked for back (R120, R129). -/
theorem encode_decodeWith (b0 : Byte) (f : Nat → Byte) :
    encode .one (decodeWith b0 f) = b0 :: (List.range (operandCount b0)).map f := by
  have h := primaryEntry_matches (f 1 ++ f 0) b0
  unfold decodeWith operandCount
  cases he : primaryEntry b0 <;> simp only [he, EntryMatches, loByte_append, immBytes_append] at h
  case op => exact h
  case opByte => exact h
  case opWord => exact h
  case cbPrefix =>
    rw [h]
    exact encode_extended .one (f 0)

/-! ## Every instruction's encoding (R121 to R128) -/

/-- An instruction's bytes are an opcode byte and all the operands it asks for, from which the decoder gives the instruction back; the
opcode byte fixes how many bytes there are (R120). -/
def Encodes (l : Config.StopLen) (i : Instr) : Prop :=
  ∃ b0 operands, encode l i = b0 :: operands ∧ operandCount b0 ≤ operands.length ∧ operands.length + 1 = instrLength l b0 ∧
    decodeWith b0 (fun k => operands.getD k 0) = i

theorem encodes_word {l : Config.StopLen} {b0 : Byte} {mk : Word → Instr} (h : primaryEntry b0 = .opWord mk) (nn : Word)
    (he : encode l (mk nn) = b0 :: immBytes nn) (hl : instrLength l b0 = 3) : Encodes l (mk nn) := by
  refine ⟨b0, immBytes nn, he, ?_, hl.symm, ?_⟩
  · simp only [operandCount, h]
    exact Nat.le_refl 2
  · simp only [decodeWith, h]
    exact congrArg mk (hiByte_append_loByte nn)

theorem encodes_of_wellFormed (l : Config.StopLen) {i : Instr} (h : WellFormed i) : Encodes l i := by
  cases i
  case prefix_cb => exact absurd rfl h
  case stop => cases l <;> exact ⟨_, _, rfl, Nat.zero_le _, rfl, rfl⟩
  -- the forms with an operand word
  case ld_bc_nn nn | ld_de_nn nn | ld_hl_nn nn | ld_sp_nn nn | ld_atnn_sp nn | ld_atnn_a nn | ld_a_atnn nn | jp_nn nn | jp_nz_nn nn |
      jp_z_nn nn | jp_nc_nn nn | jp_c_nn nn | call_nn nn | call_nz_nn nn | call_z_nn nn | call_nc_nn nn | call_c_nn nn =>
    exact encodes_word rfl nn rfl rfl
  -- no operand, or one byte: the decoder's answer is a computation
  all_goals exact ⟨_, _, rfl, Nat.le_refl _, rfl, rfl⟩

/-! ## The obligations -/

/-- Settles O1: each word is read off the maps. -/
theorem publishedWordsDecode : Obligations.PublishedWordsDecode := by
  unfold Obligations.PublishedWordsDecode
  decide +kernel

/-- Settles O2: an encoding holds all operands of its opcode byte, and the decoder reads no further. -/
theorem decodeEncodeRoundTrip : Obligations.DecodeEncodeRoundTrip := by
  intro i l rest hi
  obtain ⟨b0, operands, he, hcount, -, hdec⟩ := encodes_of_wellFormed l hi
  have hmore : operandCount b0 ≤ (operands ++ rest).length := by rw [List.length_append]; omega
  rw [he, List.cons_append, decode_of_operands hmore]
  refine congrArg _ ((decodeWith_congr fun k hk => ?_).trans hdec)
  exact List.getD_append _ _ _ _ (Nat.lt_of_lt_of_le hk hcount)

/-- Settles O3: what was read is the opcode byte and its operands, and an error means that an operand is missing. -/
theorem encodeDecodeRoundTrip : Obligations.EncodeDecodeRoundTrip := by
  refine ⟨fun bytes i h => ?_, fun b0 rest => ?_⟩
  · cases bytes with
    | nil => cases h
    | cons b0 rest =>
      rw [decode_cons] at h
      split_ifs at h with hlen hcb <;> obtain rfl := Except.ok.inj h
      · rw [encode_decodeWith]
        exact (List.prefix_cons_inj b0).2 (map_getD_range_prefix 0 hlen)
      · rw [hcb]
        exact List.prefix_append [0xCB] rest
  · rw [decode_cons, instrLength_one, List.length_cons]
    split_ifs with hlen hcb
    · exact ⟨fun ⟨e, h⟩ => (by cases h), fun h => by omega⟩
    · exact ⟨fun ⟨e, h⟩ => (by cases h), fun h => absurd hcb h.1⟩
    · exact ⟨fun _ => ⟨hcb, by omega⟩, fun _ => ⟨_, rfl⟩⟩

/-- Settles O4: the encoding's length is that of its first byte, which is between one and three. -/
theorem firstByteFixesLength : Obligations.FirstByteFixesLength := by
  refine ⟨fun i l hi => ?_, fun l => ?_, rfl, rfl⟩
  · obtain ⟨b0, operands, he, -, hlen, -⟩ := encodes_of_wellFormed l hi
    exact ⟨b0, operands, he, by rw [he, List.length_cons, hlen], instrLength_bounds l b0⟩
  · cases l <;> rfl

end Sys2Proof.Machine
end

section
/-! Instructions and steps as a whole (spec/10_state.md R24, R29, R42, spec/60_exceptions.md R380-R386; obligations O5, O7, O9, O42, O46, O47 and
O57). First that every instruction completes; then how a step fetches, and where no step is made; then what an instruction and a step keep;
then IME and F; then how many interrupts a step dispatches. -/

namespace Sys2Proof.Machine

/-! ## Every instruction completes (R310, R311) -/

theorem exec_total (i : Instr) (s : State) : ∃ t, exec i s = .next t := by
  by_cases hk : ∃ k, i = .illegal k
  · obtain ⟨k, rfl⟩ := hk
    exact ⟨_, exec_illegal k s⟩
  · by_cases hp : i = .prefix_cb
    · exact ⟨_, hp ▸ exec_prefix_cb s⟩
    · obtain ⟨u, n, he, -⟩ := exec_completes i s hp (fun k h => hk ⟨k, h⟩)
      exact ⟨_, he⟩

/-- An instruction writes of the bookkeeping its reported cost alone, and an illegal opcode the fault (R13, R310). -/
theorem exec_sys {i : Instr} {s t : State} (h : exec i s = .next t) :
    ∃ f n, t.sys = { s.sys with fault := f, cycles := n } ∧ ((∀ k, i ≠ .illegal k) → f = s.sys.fault) := by
  rcases exec_next_cases h with ⟨k, hi, rfl⟩ | ⟨ws, c, n, rfl, -⟩
  · exact ⟨_, _, rfl, fun hlegal => absurd hi (hlegal k)⟩
  · refine ⟨s.sys.fault, n, ?_, fun _ => rfl⟩
    rw [setCycles_sys, withCpu_sys, (stores_frame s ws).2.1]

/-! ## Fetching (R129, R380) -/

theorem bytesAt_three (s : State) (a : Word) : bytesAt s a 3 = [memRead s a, memRead s (a + 1), memRead s (a + 1 + 1)] := by
  have h1 : a + BitVec.ofNat 16 1 = a + 1 := rfl
  have h2 : a + BitVec.ofNat 16 2 = a + 1 + 1 := by rw [BitVec.add_assoc]; rfl
  change [memRead s (a + BitVec.ofNat 16 0), memRead s (a + BitVec.ofNat 16 1), memRead s (a + BitVec.ofNat 16 2)] = _
  rw [BitVec.add_zero, h1, h2]

/-- Three bytes are enough for every opcode, so they decode to the instruction that the step fetches. -/
theorem decode_bytesAt_pc (s : State) : decode (bytesAt s s.cpu.pc 3) = .ok (fetchInstr s) := by
  have hcount := operandCount_le (memRead s s.cpu.pc)
  rw [bytesAt_three, decode_of_operands hcount]
  refine congrArg _ (decodeWith_congr fun k hk => ?_)
  obtain rfl | rfl : k = 0 ∨ k = 1 := by omega
  · exact congrArg (memRead s) (BitVec.add_zero _).symm
  · rfl

/-! ## The outcomes of a step (R380, R384, R386, R402) -/

theorem afterInstr_of_no_fault {s : State} (h : s.sys.fault = none) : afterInstr s = finishStep s.sys.cycles s := by
  simp only [afterInstr, h]

theorem afterInstr_eq (s : State) : afterInstr s = if s.sys.fault = none then finishStep s.sys.cycles s else s := by
  split
  case isTrue h => exact afterInstr_of_no_fault h
  case isFalse h =>
    obtain ⟨e, he⟩ := Option.ne_none_iff_exists'.1 h
    exact afterInstr_of_fault he

theorem step_of_no_image {s : State} (h : s.cart.image = none) : step s = .refused .noCartridge := by
  simp only [step, h]

theorem step_of_stopped {s : State} (hi : s.cart.image ≠ none) (hf : s.sys.fault = none) (h : s.cpu.stopped = true) :
    step s = .fault .stopped := by
  obtain ⟨im, him⟩ := Option.ne_none_iff_exists'.1 hi
  simp only [step, him, hf, h, if_true]

/-- A machine that is neither faulted nor stopped makes a step, if a cartridge is loaded. -/
theorem step_of_running {s : State} (hi : s.cart.image ≠ none) (hf : s.sys.fault = none) (hs : s.cpu.stopped = false) :
    ∃ t, step s = .next t := by
  cases hh : s.cpu.halted with
  | true => exact ⟨_, step_idles ⟨hi, hf, hs, hh⟩⟩
  | false =>
    obtain ⟨u, hu⟩ := exec_total (fetchInstr (beginStep s)) (fetched (beginStep s))
    exact ⟨_, step_fetches ⟨hi, hf, hs, hh⟩ hu⟩

/-- Settles O5: the bytes at PC decode to the fetched instruction, which completes; then comes the rest of the step. -/
theorem stepRunsDecodedInstruction : Obligations.StepRunsDecodedInstruction := by
  refine ⟨fun s i hs hi => ?_, fun s hs => step_idles hs, fun n t => rfl⟩
  have hfetch : fetchInstr (beginStep s) = i := Except.ok.inj ((decode_bytesAt_pc s).symm.trans hi)
  obtain ⟨t, ht⟩ := exec_total (fetchInstr (beginStep s)) (fetched (beginStep s))
  rw [step_fetches hs ht, afterInstr_eq]
  have hexec : exec i { s with
      cpu := { s.cpu with pc := s.cpu.pc + BitVec.ofNat 16 (instrLength s.params.stopLen (memRead s s.cpu.pc)) }
      sys := { s.sys with dispatchT := 0 } } = .next t := hfetch ▸ ht
  rw [hexec]

/-- Settles O7: the three states in which no step is made. -/
theorem stepStops : Obligations.StepStops :=
  ⟨fun _ => step_of_no_image, fun _ _ _ him hf => step_of_fault (by simp [him]) hf, fun _ _ him => step_of_stopped (by simp [him])⟩

/-! ## What a step keeps -/

/-- What an instruction and a whole step never change: the parameters, the image, the boot buffer, the buttons, the breakpoints and the
frame's count; and they never turn the overlay on. -/
structure StepKeeps (s t : State) : Prop where
  params : t.params = s.params
  image : t.cart.image = s.cart.image
  boot : t.bus.boot = s.bus.boot
  overlay : t.bus.overlay = true → s.bus.overlay = true
  buttons : t.joypad.buttons = s.joypad.buttons
  breakpoints : t.sys.breakpoints = s.sys.breakpoints
  frameT : t.sys.frameT = s.sys.frameT

theorem StepKeeps.refl (s : State) : StepKeeps s s := ⟨rfl, rfl, rfl, id, rfl, rfl, rfl⟩

theorem StepKeeps.trans {s t u : State} (h : StepKeeps s t) (k : StepKeeps t u) : StepKeeps s u where
  params := k.params.trans h.params
  image := k.image.trans h.image
  boot := k.boot.trans h.boot
  overlay e := h.overlay (k.overlay e)
  buttons := k.buttons.trans h.buttons
  breakpoints := k.breakpoints.trans h.breakpoints
  frameT := k.frameT.trans h.frameT

theorem Keeps.stepKeeps {s t : State} (h : Keeps s t) : StepKeeps s t :=
  ⟨h.params, h.image, h.boot, h.overlay, h.buttons, h.breakpoints, h.frameT⟩

theorem exec_stepKeeps {i : Instr} {s t : State} (h : exec i s = .next t) : StepKeeps s t := by
  obtain ⟨f, n, hsys, -⟩ := exec_sys h
  have hbreak : t.sys.breakpoints = s.sys.breakpoints := by rw [hsys]
  have hframe : t.sys.frameT = s.sys.frameT := by rw [hsys]
  rcases exec_next_cases h with ⟨k, -, rfl⟩ | ⟨ws, c, n, rfl, -⟩
  · exact ⟨rfl, rfl, rfl, id, rfl, hbreak, hframe⟩
  · obtain ⟨-, -, hparams, himage, hboot, hoverlay, hbuttons⟩ := stores_frame s ws
    exact ⟨hparams, himage, hboot, hoverlay, hbuttons, hbreak, hframe⟩

theorem afterInstr_stepKeeps (s : State) : StepKeeps s (afterInstr s) := by
  unfold afterInstr
  split
  · exact .refl s
  · exact (finishStep_keeps _ s).stepKeeps

theorem step_stepKeeps {s t : State} (h : step s = .next t) : StepKeeps s t := by
  rcases step_cases h with ⟨-, rfl⟩ | ⟨-, u, he, rfl⟩
  · have hbegin : StepKeeps s (beginStep s) := ⟨rfl, rfl, rfl, id, rfl, rfl, rfl⟩
    exact hbegin.trans (finishStep_keeps 4 (beginStep s)).stepKeeps
  · have hfetched : StepKeeps s (fetched (beginStep s)) := ⟨rfl, rfl, rfl, id, rfl, rfl, rfl⟩
    exact (hfetched.trans (exec_stepKeeps he)).trans (afterInstr_stepKeeps u)

/-- Settles O9: every instruction completes, and only the exception of an illegal opcode writes the fault. -/
theorem everyInstructionCompletes : Obligations.EveryInstructionCompletes := by
  intro i s
  obtain ⟨t, ht⟩ := exec_total i s
  have hk := exec_stepKeeps ht
  obtain ⟨f, n, hsys, hf⟩ := exec_sys ht
  exact ⟨t, ht, hk.params, hk.image, hk.boot, hk.breakpoints, fun hlegal => by rw [hsys, ← hf hlegal]⟩

/-- Settles O42: what a step keeps, read off. -/
theorem overlayOneWay : Obligations.OverlayOneWay := fun _ _ h =>
  have k := step_stepKeeps h
  ⟨k.overlay, k.boot, k.image, k.buttons, k.breakpoints, k.params⟩

/-! ## IME and F (R24, R29) -/

theorem imeAfter_eq (i : Instr) (s : State) :
    imeAfter i s = if i = .ei ∨ i = .reti then true else if i = .di then false else s.cpu.ime := by
  unfold imeAfter
  split
  case h_4 hei hreti hdi => rw [if_neg (not_or.2 ⟨hei, hreti⟩), if_neg hdi]
  all_goals rfl

theorem imeAfter_illegal (k : IllegalOp) (s : State) : imeAfter (.illegal k) s = s.cpu.ime := by
  cases k <;> rfl

/-- Settles O47: IME after an instruction is the value its effect names; the lone byte 0xCB runs an extended
instruction, which keeps IME. -/
theorem imeWriters : Obligations.ImeWriters := by
  intro i s t h
  rw [← imeAfter_eq]
  by_cases hp : i = .prefix_cb
  · subst hp
    obtain ⟨_, ws, c, hu, -, -, hime⟩ := extendedOp_does (fetchByte s) (advancePc s)
    rw [exec_prefix_cb, hu] at h
    obtain rfl := Host.Outcome.next.inj h
    exact hime
  · rcases exec_next_cases h with ⟨k, rfl, rfl⟩ | ⟨ws, c, n, rfl, -, -, hlegal⟩
    · exact (imeAfter_illegal k s).symm
    · exact (hlegal hp).2

theorem lowNibble_zero_iff (f : Byte) : f.extractLsb' 0 4 = 0 ↔ f &&& 0x0F = 0 := by
  revert f
  decide

/-- Settles O57: an instruction's effect keeps F's low nibble zero, and the exception does not touch F. -/
theorem flagLowNibbleIsZero : Obligations.FlagLowNibbleIsZero := by
  intro i s t h hf
  rw [lowNibble_zero_iff] at hf ⊢
  rcases exec_next_cases h with ⟨k, -, rfl⟩ | ⟨ws, c, n, rfl, hlow, -⟩
  · exact hf
  · exact hlow hf

/-! ## The dispatches of a step (R380, R382) -/

/-- At most one interrupt was dispatched since the step began, and after one IME is clear, so that there is no second. -/
def OneDispatch (s : State) : Prop := s.sys.dispatchT = 0 ∨ (s.sys.dispatchT = 16 ∧ s.cpu.ime = false)

theorem evaluate_oneDispatch {s : State} (h : OneDispatch s) : OneDispatch (evaluate s) := by
  rcases evaluate_cases s with ⟨hime, i, -, e⟩ | ⟨-, -, e⟩ | ⟨hime, -, -, e⟩ | ⟨-, -, e⟩ <;> rw [e]
  · have h0 : s.sys.dispatchT = 0 := h.resolve_right fun k => by simp [hime] at k
    exact .inr ⟨by simp [dispatched, h0], rfl⟩
  · exact h
  · exact h
  · exact h

theorem advancePeripherals_oneDispatch (n : Nat) {s : State} (h : OneDispatch s) : OneDispatch (advancePeripherals n s) :=
  advancePeripherals_induct (P := OneDispatch) (fun _ _ h => h) (fun _ _ h => h) (fun _ _ h => h)
    (fun _ h => evaluate_oneDispatch h) n s h

theorem finishStep_oneDispatch (n : Nat) {s : State} (h : OneDispatch s) :
    OneDispatch (finishStep n s) ∧ (finishStep n s).sys.stepT = n + (finishStep n s).sys.dispatchT := by
  refine ⟨?_, rfl⟩
  have h1 := evaluate_oneDispatch (advancePeripherals_oneDispatch n h)
  unfold finishStep
  dsimp only
  split
  · exact advancePeripherals_oneDispatch _ h1
  · exact h1

theorem exec_dispatchT {i : Instr} {s t : State} (h : exec i s = .next t) : t.sys.dispatchT = s.sys.dispatchT := by
  obtain ⟨f, n, hsys, -⟩ := exec_sys h
  rw [hsys]

/-- A step counts at most one dispatch, and its cost is the instruction's, or 4 t where it idles, and that of the dispatch. -/
theorem step_cost {s t : State} (h : step s = .next t) :
    OneDispatch t ∧ (t.sys.fault = none → t.sys.stepT = (if s.cpu.halted then 4 else t.sys.cycles) + t.sys.dispatchT) := by
  rcases step_cases h with ⟨⟨-, -, -, hh⟩, rfl⟩ | ⟨⟨-, -, -, hh⟩, u, he, rfl⟩
  · obtain ⟨h1, h2⟩ := finishStep_oneDispatch 4 (s := beginStep s) (.inl rfl)
    rw [if_pos hh]
    exact ⟨h1, fun _ => h2⟩
  · have hu : OneDispatch u := .inl (exec_dispatchT he)
    cases hf : u.sys.fault with
    | some e =>
      rw [afterInstr_of_fault hf, hf]
      exact ⟨hu, fun hnone => by cases hnone⟩
    | none =>
      obtain ⟨h1, h2⟩ := finishStep_oneDispatch u.sys.cycles hu
      rw [afterInstr_of_no_fault hf, if_neg (by simp [hh]), (finishStep_keeps _ u).cycles]
      exact ⟨h1, fun _ => h2⟩

/-- Settles O46: one dispatch at most leaves 0 or 16 t and IME clear after it; the cost is the step's. -/
theorem atMostOneDispatchPerStep : Obligations.AtMostOneDispatchPerStep := by
  intro s t h
  obtain ⟨hone, hcost⟩ := step_cost h
  refine ⟨hone.imp_right And.left, fun h16 => ?_, hcost⟩
  rcases hone with h0 | ⟨-, hime⟩
  · omega
  · exact hime

end Sys2Proof.Machine
end

section
/-! The invariant and runFrame (spec/10_state.md sections 1 and 6 to 8, spec/60_exceptions.md sections 6 and 7; obligations O55, O56 and O60).
The invariant is kept by instructions and so by steps, and by each call of the host; runFrame is a loop of steps, each of which has a
positive cost. -/

namespace Sys2Proof.Machine

/-! ## Instructions and steps keep the invariant -/

theorem exec_inv {i : Instr} {s t : State} (h : MachineInv s) (he : exec i s = .next t) : MachineInv t := by
  rcases exec_next_cases he with ⟨k, -, rfl⟩ | ⟨ws, c, n, rfl, hf, -⟩
  · exact MachineInv.withSys (h.withCpu (c := { s.cpu with pc := s.cpu.pc - 1 }) h.fLowZero) _
  · exact MachineInv.withSys ((stores_inv s ws h).withCpu (hf h.fLowZero)) _

theorem afterInstr_inv (s : State) (h : MachineInv s) : MachineInv (afterInstr s) := by
  unfold afterInstr
  split
  · exact h
  · exact finishStep_inv _ s h

theorem beginStep_inv {s : State} (h : MachineInv s) : MachineInv (beginStep s) := h.withSys _

theorem fetched_inv {s : State} (h : MachineInv s) : MachineInv (fetched s) := h.withCpu h.fLowZero

theorem step_inv {s t : State} (h : MachineInv s) (hs : step s = .next t) : MachineInv t := by
  rcases step_cases hs with ⟨-, rfl⟩ | ⟨-, u, he, rfl⟩
  · exact finishStep_inv 4 _ (beginStep_inv h)
  · exact afterInstr_inv u (exec_inv (fetched_inv (beginStep_inv h)) he)

/-! ## The host's calls keep the invariant -/

theorem resetWith_inv {s : State} (h : MachineInv s) {cpu : Cpu} (io : Config.ResetIo) (overlay : Bool) (hf : cpu.f &&& 0x0F = 0) :
    MachineInv (resetWith cpu io overlay s) := by
  have htick : 0 < s.params.timerTick := by
    have hp := h.params
    simp only [paramsOk, Bool.and_eq_true, decide_eq_true_eq] at hp
    exact hp.1
  have hcart := h.cart
  refine ⟨hf, h.bus, ?video, ?timer, ?cart, h.params⟩
  case video =>
    unfold resetWith
    simp only [Video.ok]
    cases io.lcdc.getLsbD 7 <;> rfl
  case timer => simp [resetWith, Timer.ok, htick]
  case cart =>
    simp only [Cart.ok, Bool.and_eq_true] at hcart ⊢
    exact ⟨rfl, hcart.2⟩

theorem hostReset_inv {s : State} (h : MachineInv s) : MachineInv (hostReset s) := by
  cases hm : s.params.bootMode with
  | postBoot =>
    rw [hostReset_postBoot hm]
    exact resetWith_inv h _ _ (show (0x90 : Byte) &&& 0x0F = 0 by decide)
  | bootRom =>
    rw [hostReset_bootRom hm]
    exact (resetWith_inv h _ _ (maskF_low _)).withSys _

theorem setButton_inv (k : Button) (v : Bool) {s : State} (h : MachineInv s) : MachineInv (setButton k v s) := by
  have hj : MachineInv { s with joypad := { s.joypad with buttons := s.joypad.buttons.put k v } } :=
    ⟨h.fLowZero, h.bus, h.video, h.timer, h.cart, h.params⟩
  unfold setButton
  dsimp only
  split
  · exact requestIrq_inv _ _ hj
  · exact hj

theorem load_inv {im : Image} {s t : State} (h : MachineInv s) (him : Memory.ok im.size im.bytes = true) (hl : load im s = .success t) :
    MachineInv t := by
  unfold load at hl
  split at hl
  case isTrue hvalid =>
    obtain rfl := LoadResult.success.inj hl
    exact ⟨h.fLowZero, h.bus, h.video, h.timer, by simp [Cart.ok, hvalid, him], h.params⟩
  case isFalse => cases hl

theorem loadBoot_inv (bytes : Nat → Byte) {s : State} (h : MachineInv s) : MachineInv (loadBoot bytes s) := by
  obtain ⟨hvram, hwram, hoam, hhram, hext, -⟩ := (Bus.ok_iff _).1 h.bus
  exact ⟨h.fLowZero, (Bus.ok_iff _).2 ⟨hvram, hwram, hoam, hhram, hext, Memory.ok_ofFn 256 bytes⟩, h.video, h.timer, h.cart, h.params⟩

/-! ## A step's cost is positive (R14) -/

theorem exec_cycles_pos {i : Instr} {s t : State} (h : MachineInv s) (he : exec i s = .next t) (hf : t.sys.fault = none) :
    0 < t.sys.cycles := by
  rcases exec_next_cases he with ⟨k, -, rfl⟩ | ⟨ws, c, n, rfl, -, hcharge, -⟩
  · cases hf
  · exact (hcharge.pos h.params).1

theorem step_stepT_pos {s t : State} (h : MachineInv s) (hs : step s = .next t) (hf : t.sys.fault = none) : 0 < t.sys.stepT := by
  have hcost := (step_cost hs).2 hf
  rcases step_cases hs with ⟨⟨-, -, -, hh⟩, -⟩ | ⟨⟨-, -, -, hh⟩, u, he, rfl⟩
  · rw [if_pos hh] at hcost
    omega
  · cases hu : u.sys.fault with
    | some e =>
      rw [afterInstr_of_fault hu, hu] at hf
      cases hf
    | none =>
      have hpos := exec_cycles_pos (fetched_inv (beginStep_inv h)) he hu
      have hcycles : (afterInstr u).sys.cycles = u.sys.cycles := by
        rw [afterInstr_of_no_fault hu, (finishStep_keeps _ u).cycles]
      rw [if_neg (by simp [hh]), hcycles] at hcost
      omega

/-! ## runFrame (R392) -/

/-- A step's cost added to the frame's count. -/
def countStep (s : State) : State := { s with sys := { s.sys with frameT := s.sys.frameT + s.sys.stepT } }

/-- What holds at the head of runFrame's loop, with `n` rounds of fuel left of a call on `s`: the fuel covers the budget that is left,
and only at the first step is the frame's count still 0. -/
structure InFrame (s : State) (n : Nat) (first : Bool) (t : State) : Prop where
  inv : MachineInv t
  image : t.cart.image = s.cart.image
  breakpoints : t.sys.breakpoints = s.sys.breakpoints
  fault : t.sys.fault = none
  fuel : frameBudget ≤ n + t.sys.frameT
  counted : first = false → 0 < t.sys.frameT

theorem InFrame.next {s t u : State} {n : Nat} {first : Bool} (h : InFrame s (n + 1) first t) (hs : step t = .next u)
    (hf : u.sys.fault = none) : InFrame s n false (countStep u) := by
  have hk := step_stepKeeps hs
  have hpos := step_stepT_pos h.inv hs hf
  have hcount : (countStep u).sys.frameT = t.sys.frameT + u.sys.stepT := congrArg (· + u.sys.stepT) hk.frameT
  have hfuel := h.fuel
  refine ⟨(step_inv h.inv hs).withSys _, hk.image.trans h.image, hk.breakpoints.trans h.breakpoints, hf, ?_, fun _ => ?_⟩ <;>
    rw [hcount] <;> omega

/-- How a call of runFrame on `s` can end, apart from the fault it was called with. -/
def FrameEnd (s : State) : FrameResult → Prop
  | .frameDone t => MachineInv t ∧ frameBudget ≤ t.sys.frameT
  | .stopped t => MachineInv t ∧ t.cpu.stopped = true ∧ t.sys.frameT < frameBudget
  | .breakpointHit pc t => MachineInv t ∧ t.cpu.pc = pc ∧ pc ∈ s.sys.breakpoints ∧ t.cpu.halted = false ∧
      t.sys.frameT < frameBudget ∧ 0 < t.sys.frameT
  | .faulted e t => MachineInv t ∧ t.sys.fault = some e
  | .refused _ => s.cart.image = none

theorem frameLoop_end {s : State} {n : Nat} {first : Bool} {t : State} (h : InFrame s n first t) : FrameEnd s (frameLoop n first t) := by
  induction n generalizing first t with
  | zero => exact ⟨h.inv, by have := h.fuel; omega⟩
  | succ n ih =>
    unfold frameLoop
    split_ifs with hdone hstop hbreak
    · exact ⟨h.inv, hdone⟩
    · exact ⟨h.inv, hstop, Nat.not_le.1 hdone⟩
    · simp only [Bool.and_eq_true, Bool.not_eq_true', List.contains_iff_mem, h.breakpoints] at hbreak
      obtain ⟨⟨hfirst, hhalted⟩, hmem⟩ := hbreak
      exact ⟨h.inv, rfl, hmem, hhalted, Nat.not_le.1 hdone, h.counted hfirst⟩
    · by_cases hi : t.cart.image = none
      · rw [step_of_no_image hi]
        exact h.image.symm.trans hi
      · obtain ⟨u, hu⟩ := step_of_running hi h.fault (Bool.not_eq_true _ ▸ hstop)
        rw [hu]
        dsimp only
        split
        case h_1 e hf => exact ⟨step_inv h.inv hu, hf⟩
        case h_2 hf => exact ih (h.next hu hf)

/-- The start of a call of runFrame. -/
def beginFrame (s : State) : State := { s with sys := { s.sys with frameT := 0 } }

theorem runFrame_of_fault {s : State} {e : DecodeFault} (h : s.sys.fault = some e) : runFrame s = .faulted e s := by
  simp only [runFrame, h]

theorem runFrame_of_no_fault {s : State} (h : s.sys.fault = none) : runFrame s = frameLoop frameBudget true (beginFrame s) := by
  simp only [runFrame, h, beginFrame]

theorem runFrame_end {s : State} (h : MachineInv s) : FrameEnd s (runFrame s) := by
  cases hf : s.sys.fault with
  | some e =>
    rw [runFrame_of_fault hf]
    exact ⟨h, hf⟩
  | none =>
    rw [runFrame_of_no_fault hf]
    exact frameLoop_end ⟨h.withSys _, rfl, rfl, hf, Nat.le_refl _, fun k => by cases k⟩

/-- The first round of the loop that meets a stopped machine. -/
theorem frameLoop_of_stopped {n : Nat} {first : Bool} {t : State} (hb : t.sys.frameT < frameBudget) (h : t.cpu.stopped = true) :
    frameLoop (n + 1) first t = .stopped t := by
  rw [frameLoop, if_neg (Nat.not_le.2 hb), if_pos h]

/-- The first step of a call, where it faults. -/
theorem frameLoop_of_fault {n : Nat} {t u : State} {e : DecodeFault} (hb : t.sys.frameT < frameBudget) (hs : step t = .next u)
    (hf : u.sys.fault = some e) : frameLoop (n + 1) true t = .faulted e u := by
  have hstop : t.cpu.stopped = false := by
    rcases step_cases hs with ⟨⟨-, -, h, -⟩, -⟩ | ⟨⟨-, -, h, -⟩, -⟩ <;> exact h
  rw [frameLoop, if_neg (Nat.not_le.2 hb), if_neg (by simp [hstop]), if_neg (by simp), hs]
  simp only [hf]

/-! ## The obligations -/

/-- Settles O55: each part of the invariant is read off the reset state. -/
theorem invariantHoldsAtReset : Obligations.InvariantHoldsAtReset :=
  ⟨rfl, rfl, rfl, rfl, rfl, rfl⟩

/-- Settles O56: each call's own lemma; runFrame by how it ends. -/
theorem stepKeepsInvariant : Obligations.StepKeepsInvariant := by
  refine ⟨fun s t => step_inv, fun s => hostReset_inv, fun k v s => setButton_inv k v, fun im s t => load_inv,
    fun bytes s => loadBoot_inv bytes, fun s h => h.withCpu h.fLowZero, fun pc s h => ⟨h.withSys _, h.withSys _⟩, fun s t h hend => ?_⟩
  have hrun := runFrame_end h
  rcases hend with e | e | ⟨pc, e⟩ | ⟨f, e⟩ <;> rw [e] at hrun <;> exact hrun.1

/-- Settles O60: the endings are those of the loop; the three clauses on a first step are its first round. -/
theorem runFrameEnds : Obligations.RunFrameEnds := by
  intro s h
  have hrun := runFrame_end h
  have hbudget : (beginFrame s).sys.frameT < frameBudget := Nat.zero_lt_succ _
  refine ⟨fun t e => ?done, fun pc t e => ?breakpoint, fun f t e => ?faulted, fun t e => ?stopped, fun u e hf hs hu => ?firstFault,
    fun e => runFrame_of_fault, fun hf hs => ?alreadyStopped, fun hi r e => ?refused⟩
  case done => rw [e] at hrun; exact hrun.2
  case breakpoint => rw [e] at hrun; exact hrun.2
  case faulted => rw [e] at hrun; exact hrun.2
  case stopped => rw [e] at hrun; exact hrun.2
  case firstFault =>
    rw [runFrame_of_no_fault hf]
    exact frameLoop_of_fault hbudget hs hu
  case alreadyStopped =>
    rw [runFrame_of_no_fault hf]
    exact frameLoop_of_stopped hbudget hs
  case refused => rw [e] at hrun; exact hi hrun

end Sys2Proof.Machine
end

section
/-! The scanline state machine (spec/60_exceptions.md R350-R354; obligations O50 and O51). First one cycle, by the mode and whether it ends the
mode; then the cycles of a visible line; then a frame as its lines. -/

namespace Sys2Proof.Machine

/-! ## One video t-cycle (R351 to R353) -/

section
variable {s : State}

/-- A cycle that does not end the mode (in VBlank, the line) moves the clock alone. -/
theorem videoCycle_tick (h : s.video.vclock + 1 ≠ s.video.mode.length) :
    videoCycle s = s.withVideo { s.video with vclock := s.video.vclock + 1 } := by
  unfold videoCycle videoTransition
  simp only [withVideo_video]
  cases hm : s.video.mode <;> simp only [hm, VideoMode.length] at h <;> dsimp only <;> exact if_neg h

theorem videoCycle_oamScan_end (hm : s.video.mode = .oamScan) (hc : s.video.vclock = 79) :
    videoCycle s = s.withVideo { s.video with vclock := 0, mode := .drawing } := by
  simp only [videoCycle, videoTransition, withVideo_video, hm, hc, if_true]
  rfl

/-- The end of Drawing renders the row (R360). -/
theorem videoCycle_drawing_end (hm : s.video.mode = .drawing) (hc : s.video.vclock = 171) :
    videoCycle s = s.withVideo (renderedRow s.params.shades s.bus.vram s.bus.oam s.video.ly.toNat
      { s.video with vclock := 0, mode := .hblank }) := by
  simp only [videoCycle, videoTransition, withVideo_video, hm, hc, if_true]
  rfl

theorem videoCycle_hblank_end (hm : s.video.mode = .hblank) (hc : s.video.vclock = 203) (hl : s.video.ly ≠ 143) :
    videoCycle s = s.withVideo { s.video with vclock := 0, ly := s.video.ly + 1, mode := .oamScan } := by
  have h144 : s.video.ly + 1 ≠ 144 := fun h => hl (by bv_omega)
  simp only [videoCycle, videoTransition, withVideo_video, hm, hc, if_true, if_neg h144]
  rfl

theorem videoCycle_vblank_lineEnd (hm : s.video.mode = .vblank) (hc : s.video.vclock = 455) (hl : s.video.ly ≠ 153) :
    videoCycle s = s.withVideo { s.video with vclock := 0, ly := s.video.ly + 1 } := by
  have h154 : s.video.ly + 1 ≠ 154 := fun h => hl (by bv_omega)
  simp only [videoCycle, videoTransition, withVideo_video, hm, hc, if_true, if_neg h154]
  rfl

theorem videoCycle_frameEnd (hm : s.video.mode = .vblank) (hc : s.video.vclock = 455) (hl : s.video.ly = 153) :
    videoCycle s = s.withVideo { s.video with vclock := 0, ly := 0, mode := .oamScan } := by
  simp only [videoCycle, videoTransition, withVideo_video, hm, hc, hl, if_true]
  rfl

/-- The last cycle of line 143 is the one that enters VBlank (R353). -/
def Entering (u : Video) : Prop := u.mode = .hblank ∧ u.vclock = 203 ∧ u.ly = 143

/-- The requests of VBlank and the finished frame, before the interrupt pass (R354). -/
def enteredVBlank (s : State) : State :=
  { s with
    video := { s.video with mode := .vblank, vclock := 0, ly := 144, fbOut := s.video.fbWork }
    irq := { s.irq with ifl := s.irq.ifl ||| 0b00001 ||| (if s.video.statw.getLsbD 1 then 0b00010 else 0) } }

/-- Bit 4 of STAT as read is the stored enable bit of VBlank (R35). -/
theorem statBit_four (u : Video) : statBit u 4 = u.statw.getLsbD 1 := by
  simp only [statBit, statRead, BitVec.getLsbD_append]
  rfl

theorem enterVBlank_eq (s : State) :
    enterVBlank s = evaluate { s with
      video := { s.video with fbOut := s.video.fbWork }
      irq := { s.irq with ifl := s.irq.ifl ||| 0b00001 ||| (if s.video.statw.getLsbD 1 then 0b00010 else 0) } } := by
  simp only [enterVBlank, requestIrq_video, statBit_four]
  cases s.video.statw.getLsbD 1 with
  | true => rfl
  | false =>
    simp only [Bool.false_eq_true, if_false, BitVec.ofNat_eq_ofNat, BitVec.or_zero]
    rfl

theorem videoCycle_entering (h : Entering s.video) : videoCycle s = evaluate (enteredVBlank s) := by
  obtain ⟨hm, hc, hl⟩ := h
  simp only [videoCycle, videoTransition, withVideo_video, hm, hc, hl, if_true]
  exact enterVBlank_eq _

end

/-! ## What a rendered row changes (R360) -/

/-- `w` differs from `u` in the index buffer and the work frame alone. -/
def RowOnly (u w : Video) : Prop := w = { u with bgidx := w.bgidx, fbWork := w.fbWork }

theorem RowOnly.refl (u : Video) : RowOnly u u := rfl

theorem RowOnly.trans {u v w : Video} (h : RowOnly u v) (k : RowOnly v w) : RowOnly u w := by
  unfold RowOnly at *
  rw [k, h]

theorem RowOnly.foldl {f : Video → Nat → Video} (hf : ∀ u i, RowOnly u (f u i)) (u : Video) (l : List Nat) : RowOnly u (l.foldl f u) :=
  List.foldlRecOn (motive := RowOnly u) l f (.refl u) (fun w hw i _ => hw.trans (hf w i))

theorem windowPass_rowOnly (sh : Config.Shades) (vram : Memory) (y : Nat) (u : Video) : RowOnly u (windowPass sh vram y u) := by
  unfold windowPass
  split_ifs
  · refine .foldl (fun u x => ?_) u _
    rw [windowPixel_eq]
    split_ifs
    · rfl
    · exact .refl u
  · exact .refl u

theorem renderedRow_rowOnly (sh : Config.Shades) (vram oam : Memory) (y : Nat) (u : Video) : RowOnly u (renderedRow sh vram oam y u) := by
  have hback : ∀ u, RowOnly u (backgroundPass sh vram y u) := fun u => .foldl (fun u x => by rw [backgroundPixel_eq]; rfl) u _
  have hsprite : ∀ u, RowOnly u (spritePass sh vram oam y u) := fun u => by
    have hframe := (spritePass_holds sh vram oam u y 0 (by decide)).1
    rw [hframe]
    rfl
  exact ((hback u).trans (windowPass_rowOnly sh vram y _)).trans (hsprite _)

/-! ## The cycles that do not enter VBlank (R351) -/

/-- Every other cycle changes the video unit alone, and not the frame that the host reads. -/
theorem videoCycle_of_not_entering {s : State} (h : ¬Entering s.video) :
    ∃ v, videoCycle s = s.withVideo v ∧ v.fbOut = s.video.fbOut := by
  by_cases hend : s.video.vclock + 1 = s.video.mode.length
  · cases hm : s.video.mode <;> rw [hm] at hend <;> simp only [VideoMode.length, Nat.reduceEqDiff] at hend
    case oamScan => exact ⟨_, videoCycle_oamScan_end hm hend, rfl⟩
    case drawing =>
      refine ⟨_, videoCycle_drawing_end hm hend, ?_⟩
      rw [renderedRow_rowOnly]
    case hblank => exact ⟨_, videoCycle_hblank_end hm hend fun hl => h ⟨hm, hend, hl⟩, rfl⟩
    case vblank =>
      by_cases hl : s.video.ly = 153
      · exact ⟨_, videoCycle_frameEnd hm hend hl, rfl⟩
      · exact ⟨_, videoCycle_vblank_lineEnd hm hend hl, rfl⟩
  · exact ⟨_, videoCycle_tick hend, rfl⟩

/-! ## The cycles of a line (R352, R353) -/

theorem videoCycles_succ (n : Nat) (s : State) : videoCycles (n + 1) s = videoCycle (videoCycles n s) := videoCycles_add n 1 s

/-- Within a mode the clock counts the cycles. -/
theorem videoCycles_tick {s : State} {n : Nat} (h : s.video.vclock + n < s.video.mode.length) :
    videoCycles n s = s.withVideo { s.video with vclock := s.video.vclock + n } := by
  induction n generalizing s with
  | zero => rfl
  | succ n ih =>
    rw [videoCycles, videoCycle_tick (by omega), ih (by simp only [withVideo_video]; omega)]
    simp only [State.withVideo, Nat.add_assoc, Nat.add_comm 1]

section
variable {s : State}

/-- The row that a visible line renders at the end of its mode 3, seen from the line's start. -/
def lineRow (s : State) : Video :=
  renderedRow s.params.shades s.bus.vram s.bus.oam s.video.ly.toNat { s.video with mode := .hblank, vclock := 0 }

theorem lineRow_rowOnly (s : State) : RowOnly { s.video with mode := .hblank, vclock := 0 } (lineRow s) := renderedRow_rowOnly _ _ _ _ _

variable (hm : s.video.mode = .oamScan) (hc : s.video.vclock = 0)
include hm hc

theorem videoCycles_oamScan {n : Nat} (hn : n < 80) : videoCycles n s = s.withVideo { s.video with vclock := n } := by
  rw [videoCycles_tick (by rw [hm, hc]; simpa [VideoMode.length] using hn), hc, Nat.zero_add]

theorem videoCycles_drawing {n : Nat} (hn : n < 172) :
    videoCycles (80 + n) s = s.withVideo { s.video with mode := .drawing, vclock := n } := by
  have h80 : videoCycles 80 s = s.withVideo { s.video with mode := .drawing, vclock := 0 } := by
    rw [show 80 = 79 + 1 from rfl, videoCycles_succ, videoCycles_oamScan hm hc (by decide)]
    exact videoCycle_oamScan_end hm rfl
  rw [videoCycles_add, h80, videoCycles_tick (by simpa [VideoMode.length] using hn)]
  simp [State.withVideo]

theorem videoCycles_hblank {n : Nat} (hn : n < 204) :
    videoCycles (252 + n) s = s.withVideo { lineRow s with vclock := n } := by
  have hrow := lineRow_rowOnly s
  have h252 : videoCycles 252 s = s.withVideo (lineRow s) := by
    rw [show 252 = 80 + 171 + 1 from rfl, videoCycles_succ, videoCycles_drawing hm hc (by decide)]
    exact videoCycle_drawing_end rfl rfl
  rw [videoCycles_add, h252, videoCycles_tick (by rw [withVideo_video, hrow]; simpa [VideoMode.length] using hn), withVideo_video, hrow]
  simp [State.withVideo]

theorem videoCycles_line (hl : s.video.ly ≠ 143) :
    videoCycles 456 s = s.withVideo { lineRow s with vclock := 0, ly := s.video.ly + 1, mode := .oamScan } := by
  have hrow := lineRow_rowOnly s
  rw [show 456 = 252 + 203 + 1 from rfl, videoCycles_succ, videoCycles_hblank hm hc (by decide)]
  refine (videoCycle_hblank_end (by rw [withVideo_video, hrow]) rfl (by rw [withVideo_video, hrow]; exact hl)).trans ?_
  rw [withVideo_video, hrow]
  rfl

/-- Up to a visible line's last cycle the video unit alone changes, and not the frame that the host reads. -/
theorem videoCycles_line_frame (hl : s.video.ly ≠ 143) {n : Nat} (hn : n ≤ 456) :
    ∃ v, videoCycles n s = s.withVideo v ∧ v.fbOut = s.video.fbOut := by
  have hrow := lineRow_rowOnly s
  have hphase : n < 80 ∨ (80 ≤ n ∧ n < 252) ∨ (252 ≤ n ∧ n < 456) ∨ n = 456 := by omega
  rcases hphase with h | ⟨h1, h2⟩ | ⟨h1, h2⟩ | rfl
  · exact ⟨_, videoCycles_oamScan hm hc h, rfl⟩
  · obtain ⟨m, rfl⟩ := Nat.exists_eq_add_of_le h1
    exact ⟨_, videoCycles_drawing hm hc (by omega), rfl⟩
  · obtain ⟨m, rfl⟩ := Nat.exists_eq_add_of_le h1
    exact ⟨_, videoCycles_hblank hm hc (by omega), by rw [hrow]⟩
  · exact ⟨_, videoCycles_line hm hc hl, by rw [hrow]⟩

end

/-- Settles O50: the line's three modes one after the other, and the cycle that ends each. -/
theorem visibleLine : Obligations.VisibleLine := by
  refine ⟨fun s hm hc => videoCycle_drawing_end hm hc, fun s hm hc hly => ?_⟩
  have hrow := lineRow_rowOnly s
  have hl : s.video.ly ≠ 143 := fun h => by simp [h] at hly
  refine ⟨fun n hn => ?before, fun n h1 h2 => ?after, fun n hn => ?oamScan, fun n h1 h2 => ?drawing, fun n h1 h2 => ?hblank, ?mode, ?ly, ?vclock,
    fun n hn => ?frame⟩
  case before =>
    by_cases h : n < 80
    · rw [videoCycles_oamScan hm hc h]
      exact ⟨rfl, rfl⟩
    · obtain ⟨m, rfl⟩ := Nat.exists_eq_add_of_le (Nat.not_lt.1 h)
      rw [videoCycles_drawing hm hc (by omega)]
      exact ⟨rfl, rfl⟩
  case after =>
    rcases Nat.lt_or_eq_of_le h2 with h | rfl
    · obtain ⟨m, rfl⟩ := Nat.exists_eq_add_of_le h1
      rw [videoCycles_hblank hm hc (by omega)]
      exact ⟨rfl, rfl⟩
    · rw [videoCycles_line hm hc hl]
      exact ⟨rfl, rfl⟩
  case oamScan =>
    rw [videoCycles_oamScan hm hc hn]
    exact ⟨hm, rfl⟩
  case drawing =>
    obtain ⟨m, rfl⟩ := Nat.exists_eq_add_of_le h1
    rw [videoCycles_drawing hm hc (by omega)]
    exact ⟨rfl, rfl⟩
  case hblank =>
    obtain ⟨m, rfl⟩ := Nat.exists_eq_add_of_le h1
    rw [videoCycles_hblank hm hc (by omega), hrow]
    exact ⟨rfl, rfl⟩
  case mode | ly | vclock =>
    rw [videoCycles_line hm hc hl]
    rfl
  case frame =>
    obtain ⟨v, hv, hout⟩ := videoCycles_line_frame hm hc hl hn
    rw [hv]
    exact ⟨rfl, rfl, rfl, hout⟩

/-! ## A whole frame (R351, R353, R354) -/

/-- At the start of line k (k ≤ 143) of a frame. -/
structure AtLine (s : State) (k : Nat) (v : Video) : Prop where
  mode : v.mode = .oamScan
  vclock : v.vclock = 0
  ly : v.ly = BitVec.ofNat 8 k
  statw : v.statw = s.video.statw
  fbOut : v.fbOut = s.video.fbOut

theorem AtLine.ly_ne {s : State} {k : Nat} {v : Video} (h : AtLine s k v) (hk : k < 143) : v.ly ≠ 143 := by
  rw [h.ly]
  bv_omega

/-- The visible lines one after the other. -/
theorem videoCycles_lines {s : State} (hm : s.video.mode = .oamScan) (hc : s.video.vclock = 0) (hl : s.video.ly = 0) {k : Nat}
    (hk : k ≤ 143) :
    ∃ v, videoCycles (456 * k) s = s.withVideo v ∧ AtLine s k v := by
  induction k with
  | zero => exact ⟨s.video, rfl, hm, hc, hl, rfl, rfl⟩
  | succ k ih =>
    obtain ⟨v, hv, hline⟩ := ih (by omega)
    have hrow := lineRow_rowOnly (s.withVideo v)
    refine ⟨{ lineRow (s.withVideo v) with vclock := 0, ly := v.ly + 1, mode := .oamScan }, ?_, rfl, rfl, ?_, ?_, ?_⟩
    · rw [Nat.mul_succ, videoCycles_add, hv]
      exact videoCycles_line hline.mode hline.vclock (hline.ly_ne (by omega))
    · rw [hline.ly, BitVec.ofNat_add]
      rfl
    · rw [hrow]
      exact hline.statw
    · rw [hrow]
      exact hline.fbOut

/-- The cycles of one visible line: only the last of line 143 enters VBlank. -/
theorem entering_line {s : State} (hm : s.video.mode = .oamScan) (hc : s.video.vclock = 0) {j : Nat} (hj : j < 456) :
    Entering (videoCycles j s).video ↔ j = 455 ∧ s.video.ly = 143 := by
  have hrow := lineRow_rowOnly s
  unfold Entering
  have hphase : j < 80 ∨ (80 ≤ j ∧ j < 252) ∨ 252 ≤ j := by omega
  rcases hphase with h | ⟨h1, h2⟩ | h1
  · rw [videoCycles_oamScan hm hc h]
    simp [hm]
    omega
  · obtain ⟨m, rfl⟩ := Nat.exists_eq_add_of_le h1
    rw [videoCycles_drawing hm hc (by omega)]
    simp
    omega
  · obtain ⟨m, rfl⟩ := Nat.exists_eq_add_of_le h1
    rw [videoCycles_hblank hm hc (by omega), hrow]
    simp
    omega

section
variable {s : State} (hm : s.video.mode = .oamScan) (hc : s.video.vclock = 0) (hl : s.video.ly = 0)
include hm hc hl

theorem entering_frame {n : Nat} (hn : n < 65664) : Entering (videoCycles n s).video ↔ n = 65663 := by
  obtain ⟨v, hv, hline⟩ := videoCycles_lines hm hc hl (k := n / 456) (by omega)
  have hly : v.ly = 143 ↔ n / 456 = 143 := by
    rw [hline.ly]
    bv_omega
  rw [← Nat.div_add_mod n 456, videoCycles_add, hv, entering_line hline.mode hline.vclock (Nat.mod_lt n (by decide)), withVideo_video, hly]
  omega

/-- The state in which VBlank is entered, from the start of line 0. -/
theorem videoCycles_beforeVBlank : ∃ v, videoCycles 65663 s = s.withVideo v ∧ v.statw = s.video.statw := by
  obtain ⟨v, hv, hline⟩ := videoCycles_lines hm hc hl (Nat.le_refl 143)
  have hrow := lineRow_rowOnly (s.withVideo v)
  refine ⟨{ lineRow (s.withVideo v) with vclock := 203 }, ?_, ?_⟩
  · rw [show 65663 = 456 * 143 + (252 + 203) from rfl, videoCycles_add, hv]
    exact videoCycles_hblank hline.mode hline.vclock (by decide)
  · rw [hrow]
    exact hline.statw

theorem videoCycles_enteringVBlank : videoCycles 65664 s = evaluate (enteredVBlank (videoCycles 65663 s)) := by
  rw [videoCycles_succ]
  exact videoCycle_entering ((entering_frame hm hc hl (by decide)).2 rfl)

end

section
variable {s : State} (hm : s.video.mode = .vblank) (hc : s.video.vclock = 0)
include hm hc

theorem videoCycles_vblank_tick {j : Nat} (hj : j < 456) : videoCycles j s = s.withVideo { s.video with vclock := j } := by
  rw [videoCycles_tick (by rw [hm, hc]; simpa [VideoMode.length] using hj), hc, Nat.zero_add]

theorem videoCycles_vblank_line (hl : s.video.ly ≠ 153) :
    videoCycles 456 s = s.withVideo { s.video with vclock := 0, ly := s.video.ly + 1 } := by
  rw [show 456 = 455 + 1 from rfl, videoCycles_succ, videoCycles_vblank_tick hm hc (by decide)]
  exact videoCycle_vblank_lineEnd (s := s.withVideo { s.video with vclock := 455 }) hm rfl hl

theorem videoCycles_vblank_last (hl : s.video.ly = 153) :
    videoCycles 456 s = s.withVideo { s.video with vclock := 0, ly := 0, mode := .oamScan } := by
  rw [show 456 = 455 + 1 from rfl, videoCycles_succ, videoCycles_vblank_tick hm hc (by decide)]
  exact videoCycle_frameEnd (s := s.withVideo { s.video with vclock := 455 }) hm rfl hl

/-- The lines of VBlank one after the other. -/
theorem videoCycles_vblank_lines (hl : s.video.ly = 144) {k : Nat} (hk : k ≤ 9) :
    videoCycles (456 * k) s = s.withVideo { s.video with vclock := 0, ly := BitVec.ofNat 8 (144 + k) } := by
  induction k with
  | zero =>
    change s = s.withVideo { s.video with vclock := 0, ly := 144 }
    rw [← hl, ← hc]
    rfl
  | succ k ih =>
    have hne : BitVec.ofNat 8 (144 + k) ≠ 153#8 := by bv_omega
    rw [Nat.mul_succ, videoCycles_add, ih (by omega), videoCycles_vblank_line (by exact hm) rfl hne, ← Nat.add_assoc, BitVec.ofNat_add _ 1]
    rfl

theorem videoCycles_vblank_whole (hl : s.video.ly = 144) :
    videoCycles 4560 s = s.withVideo { s.video with vclock := 0, ly := 0, mode := .oamScan } := by
  rw [show 4560 = 456 * 9 + 456 from rfl, videoCycles_add, videoCycles_vblank_lines hm hc hl (Nat.le_refl 9),
    videoCycles_vblank_last (by exact hm) rfl rfl]
  rfl

theorem not_entering_vblank (hl : s.video.ly = 144) {n : Nat} (hn : n < 4560) : ¬Entering (videoCycles n s).video := by
  have hmode : (videoCycles n s).video.mode = .vblank := by
    rw [← Nat.div_add_mod n 456, videoCycles_add, videoCycles_vblank_lines hm hc hl (k := n / 456) (by omega),
      videoCycles_vblank_tick (by exact hm) rfl (Nat.mod_lt n (by decide))]
    exact hm
  rintro ⟨h, -, -⟩
  rw [hmode] at h
  cases h

end

/-- Where VBlank is enabled and IME set, the interrupt pass dispatches VBlank. -/
theorem evaluate_enteredVBlank_of_enabled {u : State} (hime : u.cpu.ime = true) (hie : u.irq.ie.getLsbD 0 = true) :
    evaluate (enteredVBlank u) = dispatched (enteredVBlank u) 0 0x0040 := by
  have hbit : (pendingEnabled (enteredVBlank u)).getLsbD 0 = true := by
    change ((u.irq.ifl ||| 1#5 ||| _) &&& u.irq.ie).getLsbD 0 = true
    simp [hie]
  exact evaluate_of_eligible (i := .vblank) hime (if_pos hbit)

theorem vblankRequests_masked {f e : BitVec 5} (b : Bool) (h : (f ||| 0b00011) &&& e &&& 0b10111 = 0) :
    (f ||| 0b00001 ||| (if b then 0b00010 else 0)) &&& e &&& 0b10111 = 0 := by
  revert f e b
  decide +kernel

/-- Where neither source of VBlank's own requests nor an earlier request is eligible, the interrupt pass can only wake the processor. -/
theorem evaluate_enteredVBlank_of_quiet {u : State} (h : u.cpu.ime = false ∨ (u.irq.ifl ||| 0b00011) &&& u.irq.ie &&& 0b10111 = 0) :
    ∃ b, evaluate (enteredVBlank u) = (enteredVBlank u).withCpu { u.cpu with halted := b } := by
  have hnone : u.cpu.ime = true → firstEligible (pendingEnabled (enteredVBlank u)) = none := by
    intro hime
    have hmask : (u.irq.ifl ||| 0b00011) &&& u.irq.ie &&& 0b10111 = 0 := h.resolve_left (by simp [hime])
    exact firstEligible_eq_none (vblankRequests_masked _ hmask)
  rcases evaluate_cases (enteredVBlank u) with ⟨hime, i, hi, -⟩ | ⟨-, -, e⟩ | ⟨-, -, -, e⟩ | ⟨-, -, e⟩
  · rw [hnone hime] at hi
    cases hi
  · exact ⟨u.cpu.halted, e⟩
  · exact ⟨false, e⟩
  · exact ⟨u.cpu.halted, e⟩

/-- Settles O51: the cycle that enters VBlank and the others; then the frame, 143 lines and the last cycle of the 144th, and ten lines of
VBlank. -/
theorem wholeFrame : Obligations.WholeFrame := by
  unfold Obligations.WholeFrame
  intro entering entered
  refine ⟨fun u => videoCycle_entering, fun u hu => ?_, fun s hm hc hl => ⟨fun hime hie => ?_, fun hquiet => ?_⟩⟩
  · obtain ⟨v, hv, hout⟩ := videoCycle_of_not_entering hu
    rw [hv]
    exact ⟨rfl, rfl, rfl, hout⟩
  · obtain ⟨v, hv, -⟩ := videoCycles_beforeVBlank hm hc hl
    rw [videoCycles_enteringVBlank hm hc hl, hv]
    exact ⟨evaluate_enteredVBlank_of_enabled (u := s.withVideo v) hime hie, rfl⟩
  · obtain ⟨v, hv, hstatw⟩ := videoCycles_beforeVBlank hm hc hl
    obtain ⟨b, hb⟩ := evaluate_enteredVBlank_of_quiet (u := s.withVideo v) hquiet
    have hstart : videoCycles 65664 s = (enteredVBlank (s.withVideo v)).withCpu { s.cpu with halted := b } := by
      rw [videoCycles_enteringVBlank hm hc hl, hv, hb]
      rfl
    have hend := videoCycles_vblank_whole (s := (enteredVBlank (s.withVideo v)).withCpu { s.cpu with halted := b }) rfl rfl rfl
    rw [← hstart, ← videoCycles_add] at hend
    intro t
    have ht : t = _ := hend
    refine ⟨fun n hn => ?_, ?_⟩
    · rcases Nat.lt_or_ge n 65664 with h | h
      · exact entering_frame hm hc hl h
      · obtain ⟨m, rfl⟩ := Nat.exists_eq_add_of_le h
        rw [videoCycles_add, hstart]
        exact iff_of_false (not_entering_vblank rfl rfl rfl (by omega)) (by omega)
    · rw [ht, hstart, ← hstatw]
      exact ⟨rfl, rfl, rfl, rfl, rfl, rfl, rfl, rfl⟩

end Sys2Proof.Machine
end

section
/-! The timer (spec/60_exceptions.md R340-R343; obligations O48 and O49). An advance is first brought to ticks, one for each P_TIMER_TICK_T
t-cycles; DIV and TIMA are then counted by ticks. -/

namespace Sys2Proof.Machine

/-! ## From t-cycles to ticks (R340) -/

/-- Inside a tick's period the cycles move the sub-counter alone. -/
theorem timerAdvance_of_lt_timerTick {s : State} (h0 : s.timer.tsub = 0) {j : Nat} (hj : j < s.params.timerTick) :
    timerAdvance j s = { s with timer := { s.timer with tsub := j } } := by
  induction j with
  | zero =>
    conv_rhs => rw [← h0]
    rfl
  | succ j ih =>
    have hne : j + 1 ≠ s.params.timerTick := Nat.ne_of_lt hj
    rw [timerAdvance_add, ih (by omega)]
    simp only [timerAdvance, timerCycle, if_neg hne]

/-- A whole period is one tick. -/
theorem timerAdvance_timerTick {s : State} (h0 : s.timer.tsub = 0) (hp : 0 < s.params.timerTick) :
    timerAdvance s.params.timerTick s = timerTick s := by
  obtain ⟨p, hpp⟩ : ∃ p, s.params.timerTick = p + 1 := ⟨s.params.timerTick - 1, by omega⟩
  rw [hpp, timerAdvance_add, timerAdvance_of_lt_timerTick h0 (by omega)]
  simp only [timerAdvance, timerCycle, hpp, if_true, ← h0]

/-- A tick moves DIV and its sub-counter by `divStep`, and neither the t-cycle counter nor the registers TMA and TAC. -/
theorem timerTick_frame (s : State) :
    (timerTick s).params = s.params ∧ (timerTick s).timer =
      { divStep s.timer with tima := (timerTick s).timer.tima, tacc := (timerTick s).timer.tacc } := by
  unfold timerTick timaStep timaIncrement
  dsimp only
  split_ifs <;> exact ⟨rfl, rfl⟩

theorem divStep_frame (u : Timer) : divStep u = { u with div := (divStep u).div, dsub := (divStep u).dsub } := by
  unfold divStep
  split <;> rfl

@[simp] theorem timerTick_params (s : State) : (timerTick s).params = s.params := (timerTick_frame s).1

@[simp] theorem timerTick_tsub (s : State) : (timerTick s).timer.tsub = s.timer.tsub := by
  rw [(timerTick_frame s).2, divStep_frame]

@[simp] theorem timerTick_div (s : State) : (timerTick s).timer.div = (divStep s.timer).div := by
  rw [(timerTick_frame s).2]

@[simp] theorem timerTick_dsub (s : State) : (timerTick s).timer.dsub = (divStep s.timer).dsub := by
  rw [(timerTick_frame s).2]

@[simp] theorem iterate_timerTick_params (k : Nat) (s : State) : (timerTick^[k] s).params = s.params := by
  induction k with
  | zero => rfl
  | succ k ih => rw [Function.iterate_succ_apply', timerTick_params, ih]

@[simp] theorem iterate_timerTick_tsub (k : Nat) (s : State) : (timerTick^[k] s).timer.tsub = s.timer.tsub := by
  induction k with
  | zero => rfl
  | succ k ih => rw [Function.iterate_succ_apply', timerTick_tsub, ih]

/-- Whole periods, from a period's start, are that many ticks. -/
theorem timerAdvance_mul_timerTick {s : State} (h0 : s.timer.tsub = 0) (hp : 0 < s.params.timerTick) (k : Nat) :
    timerAdvance (k * s.params.timerTick) s = timerTick^[k] s := by
  induction k with
  | zero => rw [Nat.zero_mul]; rfl
  | succ k ih =>
    have hstep := timerAdvance_timerTick (s := timerTick^[k] s) (by simp [h0]) (by simpa using hp)
    rw [iterate_timerTick_params] at hstep
    rw [Nat.succ_mul, timerAdvance_add, ih, hstep, Function.iterate_succ_apply']

/-- Any advance from a period's start: its whole periods are ticks, and the rest stands in the t-cycle counter. -/
theorem timerAdvance_eq_ticks {s : State} (h0 : s.timer.tsub = 0) (hp : 0 < s.params.timerTick) (n : Nat) :
    timerAdvance n s = { timerTick^[n / s.params.timerTick] s with
      timer := { (timerTick^[n / s.params.timerTick] s).timer with tsub := n % s.params.timerTick } } := by
  conv_lhs => rw [← Nat.div_add_mod' n s.params.timerTick]
  rw [timerAdvance_add, timerAdvance_mul_timerTick h0 hp]
  exact timerAdvance_of_lt_timerTick (by simp [h0]) (by simpa using Nat.mod_lt n hp)

/-! ## DIV (R341) -/

/-- Fifteen ticks from a count's start only move the sub-counter of DIV. -/
theorem iterate_timerTick_div_of_lt {s : State} (h0 : s.timer.dsub = 0) {j : Nat} (hj : j < 16) :
    (timerTick^[j] s).timer.div = s.timer.div ∧ (timerTick^[j] s).timer.dsub = j := by
  induction j with
  | zero => exact ⟨rfl, h0⟩
  | succ j ih =>
    obtain ⟨hdiv, hdsub⟩ := ih (by omega)
    rw [Function.iterate_succ_apply', timerTick_div, timerTick_dsub]
    simp only [divStep, hdsub, hdiv, if_neg (show j + 1 ≠ 16 by omega), and_self]

/-- The sixteenth tick counts. -/
theorem iterate_timerTick_sixteen {s : State} (h0 : s.timer.dsub = 0) :
    (timerTick^[16] s).timer.div = s.timer.div + 1 ∧ (timerTick^[16] s).timer.dsub = 0 := by
  obtain ⟨hdiv, hdsub⟩ := iterate_timerTick_div_of_lt h0 (show 15 < 16 by decide)
  rw [Function.iterate_succ_apply', timerTick_div, timerTick_dsub]
  simp only [divStep, hdsub, hdiv, if_true, and_self]

theorem iterate_timerTick_div {s : State} (h0 : s.timer.dsub = 0) (k : Nat) :
    (timerTick^[16 * k] s).timer.div = s.timer.div + BitVec.ofNat 8 k ∧ (timerTick^[16 * k] s).timer.dsub = 0 := by
  induction k with
  | zero => exact ⟨(BitVec.add_zero _).symm, h0⟩
  | succ k ih =>
    obtain ⟨hdiv, hdsub⟩ := ih
    obtain ⟨hdiv', hdsub'⟩ := iterate_timerTick_sixteen hdsub
    rw [Nat.mul_succ, Nat.add_comm, Function.iterate_add_apply]
    exact ⟨by rw [hdiv', hdiv, BitVec.add_assoc, BitVec.ofNat_add]; rfl, hdsub'⟩

/-- Settles O48: an advance of 16·k periods is 16·k ticks, and DIV counts every sixteenth. -/
theorem dividerRate : Obligations.DividerRate := by
  intro s k hp htsub hdsub
  have hticks : timerAdvance (16 * s.params.timerTick * k) s = timerTick^[16 * k] s := by
    rw [← timerAdvance_mul_timerTick htsub hp, Nat.mul_right_comm]
  obtain ⟨hdiv, hdsub'⟩ := iterate_timerTick_div hdsub k
  rw [hticks]
  exact ⟨hdiv, by rw [iterate_timerTick_tsub, htsub], hdsub'⟩

/-! ## TIMA (R342, R343) -/

/-- The selector's threshold of a state, in ticks (R342). -/
def threshold (s : State) : Nat := timaThreshold (s.timer.tac.setWidth 2)

theorem threshold_pos (s : State) : 0 < threshold s := by
  unfold threshold timaThreshold
  split_ifs <;> decide

/-- A tick below the threshold counts in `tacc`. -/
theorem timerTick_of_lt_threshold {s : State} (ht : s.timer.tac.getLsbD 2 = true) (hlt : s.timer.tacc + 1 < threshold s) :
    timerTick s = { s with timer := { divStep s.timer with tacc := s.timer.tacc + 1 } } := by
  rw [timerTick, divStep_frame, timaStep]
  exact (if_pos ht).trans (if_neg (by simpa [threshold] using hlt))

/-- The tick that reaches the threshold counts in TIMA. -/
theorem timerTick_at_threshold {s : State} (ht : s.timer.tac.getLsbD 2 = true) (heq : s.timer.tacc + 1 = threshold s) :
    timerTick s = timaIncrement { s with timer := { divStep s.timer with tacc := 0 } } := by
  rw [timerTick, divStep_frame, timaStep]
  exact (if_pos ht).trans (if_pos (by simp [threshold] at heq; exact heq.ge))

/-- With TAC enabled, the ticks below the threshold leave TIMA, TMA, TAC and the requests. -/
theorem iterate_timerTick_of_lt_threshold {s : State} (ht : s.timer.tac.getLsbD 2 = true) (h0 : s.timer.tacc = 0) {j : Nat}
    (hj : j < threshold s) :
    ∃ d e, timerTick^[j] s = { s with timer := { s.timer with div := d, dsub := e, tacc := j } } := by
  induction j with
  | zero =>
    refine ⟨s.timer.div, s.timer.dsub, ?_⟩
    conv_rhs => rw [← h0]
    rfl
  | succ j ih =>
    obtain ⟨d, e, hs⟩ := ih (by omega)
    have hstep := timerTick_of_lt_threshold (s := timerTick^[j] s) (by rw [hs]; exact ht) (by rw [hs]; exact hj)
    rw [Function.iterate_succ_apply', hstep, hs, divStep_frame]
    exact ⟨_, _, rfl⟩

/-- From the start of a count, the threshold's number of ticks is one increment of TIMA. -/
theorem iterate_timerTick_threshold {s : State} (ht : s.timer.tac.getLsbD 2 = true) (h0 : s.timer.tacc = 0) :
    ∃ d e, timerTick^[threshold s] s = timaIncrement { s with timer := { s.timer with div := d, dsub := e, tacc := 0 } } := by
  obtain ⟨j, hj⟩ : ∃ j, threshold s = j + 1 := ⟨threshold s - 1, by have := threshold_pos s; omega⟩
  obtain ⟨d, e, hs⟩ := iterate_timerTick_of_lt_threshold ht h0 (show j < threshold s by omega)
  have hlast : timerTick^[threshold s] s = timerTick (timerTick^[j] s) := by rw [hj, Function.iterate_succ_apply']
  have hstep := timerTick_at_threshold (s := timerTick^[j] s) (by rw [hs]; exact ht) (by rw [hs]; exact hj.symm)
  rw [hlast, hstep, hs, divStep_frame]
  exact ⟨_, _, rfl⟩

/-- With TAC disabled a cycle leaves TIMA, its count, TAC and the requests. -/
theorem timerCycle_of_disabled {s : State} (ht : s.timer.tac.getLsbD 2 = false) :
    (timerCycle s).timer.tima = s.timer.tima ∧ (timerCycle s).timer.tacc = s.timer.tacc ∧ (timerCycle s).timer.tac = s.timer.tac ∧
      (timerCycle s).irq = s.irq := by
  unfold timerCycle timerTick timaStep
  rw [divStep_frame]
  simp only [ht]
  split <;> exact ⟨rfl, rfl, rfl, rfl⟩

theorem timerAdvance_of_disabled {s : State} (ht : s.timer.tac.getLsbD 2 = false) (n : Nat) :
    (timerAdvance n s).timer.tima = s.timer.tima ∧ (timerAdvance n s).timer.tacc = s.timer.tacc ∧ (timerAdvance n s).irq = s.irq := by
  induction n generalizing s with
  | zero => exact ⟨rfl, rfl, rfl⟩
  | succ n ih =>
    obtain ⟨htima, htacc, htac, hirq⟩ := timerCycle_of_disabled ht
    obtain ⟨htima', htacc', hirq'⟩ := ih (s := timerCycle s) (htac ▸ ht)
    exact ⟨htima'.trans htima, htacc'.trans htacc, hirq'.trans hirq⟩

/-- The statement's threshold is the model's. -/
theorem threshold_eq_match (s : State) :
    (match (s.timer.tac.setWidth 2).toNat with | 0 => 64 | 1 => 1 | 2 => 4 | _ => 16) = threshold s := by
  unfold threshold
  generalize s.timer.tac.setWidth 2 = sel
  revert sel
  decide

/-- Settles O49, by ticks: below the threshold only `tacc` counts, at it TIMA is incremented, and with TAC disabled neither moves. -/
theorem counterRate : Obligations.CounterRate := by
  unfold Obligations.CounterRate
  intro s n hp htsub thr
  have hthr : thr = threshold s := threshold_eq_match s
  rw [hthr]
  refine ⟨fun ht h0 => ?_, fun ht => timerAdvance_of_disabled ht n⟩
  obtain ⟨d, e, hcount⟩ := iterate_timerTick_threshold ht h0
  rw [timerAdvance_mul_timerTick htsub hp, hcount]
  refine ⟨fun hn => ?_, fun hne => ?_, fun heq => ?_⟩
  · obtain ⟨d, e, hs⟩ := iterate_timerTick_of_lt_threshold ht h0 ((Nat.div_lt_iff_lt_mul hp).2 hn)
    rw [timerAdvance_eq_ticks htsub hp, hs]
    exact ⟨rfl, rfl⟩
  · simp only [timaIncrement, if_neg hne, and_self]
  · simp only [timaIncrement, heq, if_true, requestIrq]
    exact ⟨trivial, rfl⟩

end Sys2Proof.Machine
end

section
/-! A halted step (spec/60_exceptions.md R321-R324, R381; obligation O6). The peripherals and the interrupt pass take a waiting machine to one
of three phases, and the last two end the wait. -/

namespace Sys2Proof.Machine

/-! ## The requests of an advance (R343, R354, R356) -/

/-- Requests of the video unit and of the timer: bits 0, 1 and 2 of IF. -/
def OwnRequests (m : BitVec 5) : Prop := m ||| 0b00111 = 0b00111

theorem timerCycle_requests (s : State) :
    ∃ u m, OwnRequests m ∧ timerCycle s = { s with timer := u, irq := { s.irq with ifl := s.irq.ifl ||| m } } := by
  have hquiet (u : Timer) : ∃ v m, OwnRequests m ∧
      ({ s with timer := u } : State) = { s with timer := v, irq := { s.irq with ifl := s.irq.ifl ||| m } } :=
    ⟨u, 0, rfl, by rw [BitVec.ofNat_eq_ofNat, BitVec.or_zero]⟩
  unfold timerCycle timerTick timaStep timaIncrement
  dsimp only
  split_ifs
  case pos => exact ⟨_, 0b00100, rfl, rfl⟩
  all_goals exact hquiet _

/-- `advancePeripherals_induct` with what the requests are: an advance changes the video unit and the timer, requests from its own sources,
and runs interrupt passes. -/
theorem advancePeripherals_induct_requests {P : State → Prop} (hv : ∀ s u, P s → P (s.withVideo u))
    (hq : ∀ s m, OwnRequests m → P s → P { s with irq := { s.irq with ifl := s.irq.ifl ||| m } })
    (ht : ∀ s u, P s → P { s with timer := u }) (he : ∀ s, P s → P (evaluate s)) (n : Nat) (s : State) (h : P s) :
    P (advancePeripherals n s) := by
  have hcycle : ∀ s, P s → P (videoCycle s) := fun s h => by
    by_cases hent : Entering s.video
    · rw [videoCycle_entering hent]
      refine he _ ?_
      rw [enteredVBlank, BitVec.or_assoc]
      refine hq (s.withVideo { s.video with mode := .vblank, vclock := 0, ly := 144, fbOut := s.video.fbWork }) _ ?_ (hv s _ h)
      cases s.video.statw.getLsbD 1 <;> rfl
    · obtain ⟨v, e, -⟩ := videoCycle_of_not_entering hent
      exact e ▸ hv s v h
  have hcycles : ∀ n s, P s → P (videoCycles n s) := fun n => by
    induction n with
    | zero => exact fun s h => h
    | succ n ih => exact fun s h => ih _ (hcycle s h)
  have hcompare : ∀ s, P s → P (compareLy s) := fun s h => by
    by_cases heq : s.video.ly = s.video.lyc
    · rw [compareLy_of_eq heq]
      refine hq (s.withVideo { s.video with coinc := true }) _ ?_ (hv s _ h)
      cases s.video.statw.getLsbD 3 <;> rfl
    · rw [compareLy_of_ne heq]
      exact hv s _ h
  have hvideo : P (videoAdvance n s) := by
    unfold videoAdvance
    split
    · exact hcompare _ (hcycles n s h)
    · exact h
  have htimer : ∀ n s, P s → P (timerAdvance n s) := fun n => by
    induction n with
    | zero => exact fun s h => h
    | succ n ih =>
      intro s h
      obtain ⟨u, m, hm, e⟩ := timerCycle_requests s
      refine ih _ ?_
      rw [e]
      exact ht _ _ (hq s m hm h)
  exact htimer n _ hvideo

/-! ## The phases of a halted step -/

/-- Still halted: registers and memories are those of the step's start, and IF has new requests of the step's own sources alone. -/
structure Waiting (s t : State) : Prop where
  cpu : t.cpu = s.cpu
  bus : t.bus = s.bus
  cart : t.cart = s.cart
  dispatchT : t.sys.dispatchT = 0
  ie : t.irq.ie = s.irq.ie
  ifl : t.irq.ifl ||| 0b00111 = s.irq.ifl ||| 0b00111

/-- Woken with IME clear (R324). -/
structure Woken (s t : State) : Prop where
  ime : s.cpu.ime = false
  cpu : t.cpu = { s.cpu with halted := false }
  bus : t.bus = s.bus
  cart : t.cart = s.cart
  dispatchT : t.sys.dispatchT = 0
  pending : t.irq.ifl &&& t.irq.ie ≠ 0
  source : (s.irq.ifl ||| 0b00111) &&& s.irq.ie ≠ 0

/-- An interrupt was dispatched (R323). -/
structure Taken (s t : State) : Prop where
  ime : s.cpu.ime = true
  cpu : t.cpu = { s.cpu with pc := t.cpu.pc, sp := s.cpu.sp - 2, ime := false, halted := false }
  vector : t.cpu.pc = 0x0040 ∨ t.cpu.pc = 0x0048 ∨ t.cpu.pc = 0x0050 ∨ t.cpu.pc = 0x0060
  dispatchT : t.sys.dispatchT = 16
  source : (s.irq.ifl ||| 0b00111) &&& s.irq.ie ≠ 0

/-- The phase of a halted step that began in `s`. -/
inductive HaltPhase (s t : State) : Prop
  | waiting (h : Waiting s t)
  | woken (h : Woken s t)
  | taken (h : Taken s t)

/-- A request that is pending and enabled stays so when others are made. -/
theorem and_ne_zero_of_or {f e : BitVec 5} (g : BitVec 5) (h : f &&& e ≠ 0) : (f ||| g) &&& e ≠ 0 := by
  rw [BitVec.and_comm, BitVec.and_or_distrib_left]
  exact fun h0 => h (by rw [BitVec.and_comm, (BitVec.or_eq_zero_iff.1 h0).1]; rfl)

section
variable {s t : State}

/-- A request that is pending and enabled in a waiting machine was, or is of the step's own sources and is enabled. -/
theorem Waiting.source_of_pending (h : Waiting s t) (hp : pendingEnabled t ≠ 0) : (s.irq.ifl ||| 0b00111) &&& s.irq.ie ≠ 0 := by
  rw [← h.ifl, ← h.ie]
  exact and_ne_zero_of_or _ hp

theorem eligible_vector {p : BitVec 5} {i : IrqSource} (h : firstEligible p = some i) :
    i.vector = 0x0040 ∨ i.vector = 0x0048 ∨ i.vector = 0x0050 ∨ i.vector = 0x0060 := by
  cases i
  case serial =>
    revert p
    decide
  all_goals decide

theorem firstEligible_eq_none_iff {p : BitVec 5} : firstEligible p = none ↔ p &&& 0b10111 = 0 := by
  revert p
  decide

/-- The interrupt pass of a waiting machine dispatches, wakes, or finds nothing that could end the halt (R322 to R324). -/
theorem Waiting.evaluate_cases (h : Waiting s t) (hh : s.cpu.halted = true) :
    Taken s (evaluate t) ∨ Woken s (evaluate t) ∨
      (evaluate t = t ∧ pendingEnabled t &&& (if s.cpu.ime then 0b10111 else 0b11111) = 0) := by
  have hcpu := h.cpu
  rcases Machine.evaluate_cases t with ⟨hime, i, hi, e⟩ | ⟨hime, hi, e⟩ | ⟨hime, hp, -, e⟩ | ⟨hime, hp, e⟩ <;> rw [e] <;>
    rw [hcpu] at hime
  · have hp : pendingEnabled t ≠ 0 := fun h0 => by rw [h0] at hi; cases hi
    refine .inl ⟨hime, ?_, eligible_vector hi, ?_, h.source_of_pending hp⟩
    · simp only [dispatched, pushed_cpu, hcpu]
    · simp only [dispatched, pushed_sys, h.dispatchT]
  · exact .inr (.inr ⟨rfl, by rw [hime]; exact firstEligible_eq_none_iff.1 hi⟩)
  · refine .inr (.inl ⟨hime, ?_, h.bus, h.cart, h.dispatchT, hp, h.source_of_pending hp⟩)
    rw [← hcpu]
    rfl
  · rcases hp with hp | hp
    · exact .inr (.inr ⟨rfl, by rw [hp, BitVec.ofNat_eq_ofNat, BitVec.zero_and]⟩)
    · rw [hcpu, hh] at hp
      cases hp

/-- An ended halt leaves nothing to the interrupt pass. -/
theorem evaluate_of_ended (hime : t.cpu.ime = false) (hh : t.cpu.halted = false) : evaluate t = t := by
  rw [evaluate_of_ime_clear hime, if_neg (by simp [hh])]

theorem Woken.evaluate_eq (h : Woken s t) : evaluate t = t :=
  evaluate_of_ended (by rw [h.cpu]; exact h.ime) (by rw [h.cpu])

theorem Taken.evaluate_eq (h : Taken s t) : evaluate t = t :=
  evaluate_of_ended (by rw [h.cpu]) (by rw [h.cpu])

theorem Taken.advancePeripherals (n : Nat) (h : Taken s t) : Taken s (advancePeripherals n t) :=
  advancePeripherals_induct (P := Taken s) (fun _ _ h => ⟨h.ime, h.cpu, h.vector, h.dispatchT, h.source⟩)
    (fun _ _ h => ⟨h.ime, h.cpu, h.vector, h.dispatchT, h.source⟩) (fun _ _ h => ⟨h.ime, h.cpu, h.vector, h.dispatchT, h.source⟩)
    (fun _ h => h.evaluate_eq.symm ▸ h) n t h

theorem Waiting.request (h : Waiting s t) {m : BitVec 5} (hm : OwnRequests m) :
    Waiting s { t with irq := { t.irq with ifl := t.irq.ifl ||| m } } :=
  ⟨h.cpu, h.bus, h.cart, h.dispatchT, h.ie, by rw [BitVec.or_assoc, hm, h.ifl]⟩

theorem Woken.request (h : Woken s t) (m : BitVec 5) : Woken s { t with irq := { t.irq with ifl := t.irq.ifl ||| m } } :=
  ⟨h.ime, h.cpu, h.bus, h.cart, h.dispatchT, and_ne_zero_of_or m h.pending, h.source⟩

theorem HaltPhase.advancePeripherals (hh : s.cpu.halted = true) (n : Nat) (h : HaltPhase s t) :
    HaltPhase s (advancePeripherals n t) := by
  refine advancePeripherals_induct_requests (P := HaltPhase s) ?video ?request ?timer ?pass n t h
  case video =>
    rintro t u (h | h | h)
    · exact .waiting ⟨h.cpu, h.bus, h.cart, h.dispatchT, h.ie, h.ifl⟩
    · exact .woken ⟨h.ime, h.cpu, h.bus, h.cart, h.dispatchT, h.pending, h.source⟩
    · exact .taken ⟨h.ime, h.cpu, h.vector, h.dispatchT, h.source⟩
  case request =>
    rintro t m hm (h | h | h)
    · exact .waiting (h.request hm)
    · exact .woken (h.request m)
    · exact .taken ⟨h.ime, h.cpu, h.vector, h.dispatchT, h.source⟩
  case timer =>
    rintro t u (h | h | h)
    · exact .waiting ⟨h.cpu, h.bus, h.cart, h.dispatchT, h.ie, h.ifl⟩
    · exact .woken ⟨h.ime, h.cpu, h.bus, h.cart, h.dispatchT, h.pending, h.source⟩
    · exact .taken ⟨h.ime, h.cpu, h.vector, h.dispatchT, h.source⟩
  case pass =>
    rintro t (h | h | h)
    · rcases h.evaluate_cases hh with k | k | ⟨e, -⟩
      · exact .taken k
      · exact .woken k
      · exact .waiting (by rw [e]; exact h)
    · exact .woken (h.evaluate_eq.symm ▸ h)
    · exact .taken (h.evaluate_eq.symm ▸ h)

/-! ## The end of a halted step -/

theorem finishStep_of_no_dispatch {n : Nat} (h : (evaluate (advancePeripherals n s)).sys.dispatchT = 0) :
    finishStep n s = { evaluate (advancePeripherals n s) with
      sys := { (evaluate (advancePeripherals n s)).sys with stepT := n } } := by
  simp only [finishStep, h, lt_irrefl, if_false, Nat.add_zero]

theorem finishStep_of_dispatch {n d : Nat} (h : (evaluate (advancePeripherals n s)).sys.dispatchT = d) (hd : 0 < d) :
    finishStep n s = { advancePeripherals d (evaluate (advancePeripherals n s)) with
      sys := { (advancePeripherals d (evaluate (advancePeripherals n s))).sys with
        stepT := n + (advancePeripherals d (evaluate (advancePeripherals n s))).sys.dispatchT } } := by
  simp only [finishStep, h, hd, if_true]

theorem Taken.withStepT (h : Taken s t) (n : Nat) : Taken s { t with sys := { t.sys with stepT := n } } :=
  ⟨h.ime, h.cpu, h.vector, h.dispatchT, h.source⟩

/-- How a halted step ends: in one of the three phases, with its cost, and a machine still waiting has nothing that could end the halt. -/
theorem finishStep_haltPhase (hh : s.cpu.halted = true) (n : Nat) (h : Waiting s t) :
    Waiting s (finishStep n t) ∧ (finishStep n t).sys.stepT = n ∧
        pendingEnabled (finishStep n t) &&& (if s.cpu.ime then 0b10111 else 0b11111) = 0 ∨
      Woken s (finishStep n t) ∧ (finishStep n t).sys.stepT = n ∨
      Taken s (finishStep n t) ∧ (finishStep n t).sys.stepT = n + 16 := by
  have hwoken (k : Woken s (evaluate (advancePeripherals n t))) : Woken s (finishStep n t) ∧ (finishStep n t).sys.stepT = n := by
    rw [finishStep_of_no_dispatch k.dispatchT]
    exact ⟨⟨k.ime, k.cpu, k.bus, k.cart, k.dispatchT, k.pending, k.source⟩, rfl⟩
  have htaken (k : Taken s (evaluate (advancePeripherals n t))) : Taken s (finishStep n t) ∧ (finishStep n t).sys.stepT = n + 16 := by
    rw [finishStep_of_dispatch k.dispatchT (by decide)]
    generalize advancePeripherals 16 _ = u, k.advancePeripherals 16 = k'
    exact ⟨k'.withStepT _, by rw [k'.dispatchT]⟩
  rcases (HaltPhase.waiting h).advancePeripherals hh n with h1 | h1 | h1
  · rcases h1.evaluate_cases hh with k | k | ⟨e, hp⟩
    · exact .inr (.inr (htaken k))
    · exact .inr (.inl (hwoken k))
    · rw [finishStep_of_no_dispatch (e.symm ▸ h1.dispatchT), e]
      exact .inl ⟨⟨h1.cpu, h1.bus, h1.cart, h1.dispatchT, h1.ie, h1.ifl⟩, rfl, hp⟩
  · exact .inr (.inl (hwoken (h1.evaluate_eq.symm ▸ h1)))
  · exact .inr (.inr (htaken (h1.evaluate_eq.symm ▸ h1)))

end

/-- Settles O6: the step ends in one of the three phases, each of which is one of the clauses. -/
theorem haltedStepIdles : Obligations.HaltedStepIdles := by
  intro s hs
  have hstep : step s = .next (finishStep 4 (beginStep s)) := step_idles hs
  refine ⟨hstep, _, hstep, ?_⟩
  have hh : s.cpu.halted = true := hs.2.2.2
  have hstart : Waiting s (beginStep s) := ⟨rfl, rfl, rfl, rfl, rfl, rfl⟩
  generalize finishStep 4 (beginStep s) = t, finishStep_haltPhase hh 4 hstart = hend
  rcases hend with ⟨h, hcost, hp⟩ | ⟨h, hcost⟩ | ⟨h, hcost⟩
  · have ht : t.cpu.halted = true := by rw [h.cpu, hh]
    exact ⟨fun _ => ⟨h.cpu, h.bus, h.cart, hcost, hp⟩, fun hf => by simp [ht] at hf, fun hf => by simp [ht] at hf, fun _ => ht⟩
  · have ht : t.cpu.halted = false := by rw [h.cpu]
    exact ⟨fun hf => by simp [ht] at hf, fun _ _ => ⟨h.cpu, h.bus, h.cart, hcost, h.pending⟩,
      fun _ hime => by simp [h.ime] at hime, fun h0 => absurd h0 h.source⟩
  · have ht : t.cpu.halted = false := by rw [h.cpu]
    exact ⟨fun hf => by simp [ht] at hf, fun _ hime => by simp [h.ime] at hime, fun _ _ => ⟨h.cpu, h.vector, hcost⟩,
      fun h0 => absurd h0 h.source⟩

end Sys2Proof.Machine
end

section
/-! The memory behind the bus (spec/20_memory.md; obligations O16, O17, O34 and O35). First the bytes of plain storage and the addresses that
name them, then what a store leaves, then what each instruction stores to, and the stack over plain storage. -/

namespace Sys2Proof.Machine

/-! ## Plain storage and its addresses (R64, R87) -/

/-- The regions whose bytes are plain storage: VRAM, WRAM, OAM and HRAM, and the external RAM where it is flat (R64, R87). -/
def Region.IsPlain (banked : Bool) : Region → Prop
  | .vram _ | .wram _ | .oam _ | .hram _ => True
  | .ext _ => banked = false
  | _ => False

/-- The addresses that a region's byte has (R64); WRAM has its echo, and the boot buffer lies over the image. -/
def Region.At (n : Nat) : Region → Prop
  | .boot o => n = o ∧ o < 0x100
  | .cart o => n = o ∧ o < 0x8000
  | .vram o => n = 0x8000 + o ∧ o < 0x2000
  | .ext o => n = 0xA000 + o ∧ o < 0x2000
  | .wram o => (n = 0xC000 + o ∧ o < 0x2000) ∨ (n = 0xE000 + o ∧ o < 0x1E00)
  | .oam o => n = 0xFE00 + o ∧ o < 0xA0
  | .unmapped => 0xFEA0 ≤ n ∧ n < 0xFF00
  | .io o => n = 0xFF00 + o ∧ o < 0x80
  | .hram o => n = 0xFF80 + o ∧ o < 0x7F
  | .ie => n = 0xFFFF

theorem busDecode_at (ov : Bool) (a : Word) : (busDecode ov a).At a.toNat := by
  have ha := a.isLt
  unfold busDecode
  dsimp only
  split
  case isTrue h => exact ⟨rfl, h.1⟩
  case isFalse => split_ifs <;> simp only [Region.At, true_and] <;> omega

/-- A byte of plain storage is the decoder's choice at each of its addresses, under the overlay too. -/
theorem busDecode_of_at {banked : Bool} {r : Region} (hr : r.IsPlain banked) {x : Word} (h : r.At x.toNat) (ov : Bool) :
    busDecode ov x = r := by
  cases r <;> simp only [Region.IsPlain] at hr <;> simp only [Region.At] at h
  case vram o => rw [busDecode_vram (by omega) (by omega), h.1, Nat.add_sub_cancel_left]
  case ext o => rw [busDecode_ext (by omega) (by omega), h.1, Nat.add_sub_cancel_left]
  case wram o =>
    rcases h with ⟨hx, ho⟩ | ⟨hx, ho⟩
    · rw [busDecode_wram (by omega) (by omega), hx, Nat.add_sub_cancel_left]
    · rw [busDecode_echo (by omega) (by omega), hx, Nat.add_sub_cancel_left]
  case oam o => rw [busDecode_oam (by omega) (by omega), h.1, Nat.add_sub_cancel_left]
  case hram o => rw [busDecode_hram (by omega) (by omega), h.1, Nat.add_sub_cancel_left]

section
variable {s : State} {a : Word}

theorem PlainRam.isPlain (h : PlainRam s a) (ov : Bool) : (busDecode ov a).IsPlain s.cart.banked := by
  have hat := busDecode_at ov a
  cases hr : busDecode ov a <;> rw [hr] at hat <;> simp only [Region.At] at hat <;> simp only [Region.IsPlain]
  case ext o =>
    rcases h with h | ⟨-, -, hb⟩ | h | h
    · omega
    · exact hb
    · omega
    · omega
  case boot | cart | unmapped | io | ie =>
    rcases h with h | ⟨h1, h2, -⟩ | h | h <;> omega

/-- For a byte of plain storage, to be named by an address is to be the decoder's choice at it. -/
theorem sameByte_iff (h : PlainRam s a) (ov : Bool) (x : Word) : SameByte a x ↔ busDecode ov x = busDecode ov a := by
  have hx := x.isLt
  have hadd : x = a + 0x2000 ↔ x.toNat = (a.toNat + 8192) % 65536 := BitVec.toNat_inj.symm
  have hsub : x = a - 0x2000 ↔ x.toNat = (57344 + a.toNat) % 65536 := BitVec.toNat_inj.symm
  have hplain := h.isPlain ov
  have ha := busDecode_at ov a
  have hiff : busDecode ov x = busDecode ov a ↔ (busDecode ov a).At x.toNat :=
    ⟨fun e => e ▸ busDecode_at ov x, fun e => busDecode_of_at hplain e ov⟩
  rw [hiff, SameByte, hadd, hsub, ← BitVec.toNat_inj]
  cases hr : busDecode ov a <;> rw [hr] at ha hplain <;> simp only [Region.IsPlain] at hplain <;> simp only [Region.At] at ha ⊢ <;> omega

/-- A store to plain storage is read back at the addresses that the decoder sends to its byte, and at no other. -/
theorem memRead_memWrite_plain (h : PlainRam s a) (x : Word) (v : Byte) :
    memRead (memWrite s a v) x = if busDecode s.bus.overlay x = busDecode s.bus.overlay a then v else memRead s x := by
  have hplain := h.isPlain s.bus.overlay
  unfold memWrite
  cases ha : busDecode s.bus.overlay a <;> rw [ha] at hplain <;> simp only [Region.IsPlain] at hplain
  case ext o =>
    simp only [memRead, extRead, extWrite, hplain, Bool.false_eq_true, if_false]
    cases busDecode s.bus.overlay x <;> simp [Memory.get_set, ioRead]
  all_goals
    simp only [memRead]
    cases busDecode s.bus.overlay x <;> simp [Memory.get_set, extRead, ioRead]

@[simp] theorem memWrite_banked (s : State) (a : Word) (v : Byte) : (memWrite s a v).cart.banked = s.cart.banked := by
  simp only [Cart.banked, memWrite_image]

end

/-- Settles O35: a byte of plain storage is named by the addresses that the decoder sends to it. -/
theorem storageReadAfterWrite : Obligations.StorageReadAfterWrite := by
  intro s a x v h
  rw [sameByte_iff h s.bus.overlay]
  simp only [memRead_memWrite_plain h, if_true, true_and]
  exact ⟨fun e => if_pos e, fun e => if_neg e⟩

/-! ## What a store leaves (R64, R77, R95) -/

section
variable {s t : State} {x : Word}

/-- The byte of a region of plain storage. -/
def Bus.plainByte (b : Bus) : Region → Byte
  | .vram o => Memory.get b.vram o
  | .ext o => Memory.get b.extram o
  | .wram o => Memory.get b.wram o
  | .oam o => Memory.get b.oam o
  | .hram o => Memory.get b.hram o
  | _ => 0xFF

theorem busDecode_overlay (h : PlainRam s x) (ov ov' : Bool) : busDecode ov x = busDecode ov' x :=
  (sameByte_iff h ov x).1 (.inl rfl) ▸ (busDecode_of_at (h.isPlain ov') (busDecode_at ov' x) ov)

theorem memRead_plain (h : PlainRam s x) (ov : Bool) : memRead s x = s.bus.plainByte (busDecode ov x) := by
  have hplain := h.isPlain ov
  rw [memRead, busDecode_overlay h s.bus.overlay ov]
  cases hr : busDecode ov x <;> rw [hr] at hplain <;> simp only [Region.IsPlain] at hplain
  case ext o => simp only [extRead, hplain, Bool.false_eq_true, if_false, Bus.plainByte]
  all_goals rfl

theorem sameByte_comm {a x : Word} : SameByte a x ↔ SameByte x a := by
  have symm : ∀ {a x : Word}, SameByte a x → SameByte x a := by
    rintro a x (rfl | ⟨h1, h2, rfl⟩ | ⟨h1, h2, rfl⟩)
    · exact .inl rfl
    · have h : (a + 0x2000).toNat = (a.toNat + 8192) % 65536 := BitVec.toNat_add _ _
      exact .inr (.inr ⟨by omega, by omega, (BitVec.add_sub_cancel _ _).symm⟩)
    · have h : (a - 0x2000).toNat = (57344 + a.toNat) % 65536 := BitVec.toNat_sub _ _
      exact .inr (.inl ⟨by omega, by omega, (BitVec.sub_add_cancel _ _).symm⟩)
  exact ⟨symm, symm⟩

/-- An I/O write leaves the memories; the DMA register's write, OAM apart (R95). -/
theorem ioWrite_plainByte (s : State) {o : Nat} (v : Byte) {r : Region} (h : o ≠ 0x46 ∨ ∀ k, r ≠ .oam k) :
    (ioWrite s o v).bus.plainByte r = s.bus.plainByte r := by
  by_cases ho : o = 0x46
  · have hd : ioWrite s o v = dmaWrite s v := by rw [ho]; rfl
    rw [hd, dmaWrite_frame]
    generalize (dmaWrite s v).bus.oam = m
    cases r
    case oam k => exact absurd rfl (h.resolve_left (absurd ho) k)
    all_goals rfl
  · unfold ioWrite
    split
    case h_14 => exact absurd rfl ho
    all_goals rfl

/-- Any store outside a byte of plain storage leaves it, unless the byte is OAM's and the store starts a copy. -/
theorem memRead_memWrite_other {a : Word} (h : PlainRam s x) (v : Byte) (ha : ¬SameByte a x)
    (hd : a ≠ 0xFF46 ∨ x.toNat < 0xFE00 ∨ 0xFEA0 ≤ x.toNat) : memRead (memWrite s a v) x = memRead s x := by
  have ht : PlainRam (memWrite s a v) x := by rw [PlainRam, memWrite_banked]; exact h
  have hne : busDecode s.bus.overlay a ≠ busDecode s.bus.overlay x := fun e => ha (sameByte_comm.1 ((sameByte_iff h _ a).2 e))
  have hplain := h.isPlain s.bus.overlay
  have hxat := busDecode_at s.bus.overlay x
  have haat := busDecode_at s.bus.overlay a
  rw [memRead_plain ht s.bus.overlay, memRead_plain h s.bus.overlay]
  generalize busDecode s.bus.overlay x = r at hne hplain hxat
  unfold memWrite
  cases hr : busDecode s.bus.overlay a <;> rw [hr] at hne haat
  case io o =>
    refine ioWrite_plainByte s v ?_
    rcases hd with h46 | hx
    · exact .inl fun ho => h46 (BitVec.eq_of_toNat_eq (haat.1.trans (by rw [ho]; rfl)))
    · refine .inr fun k hk => ?_
      rw [hk] at hxat
      obtain ⟨hx1, hx2⟩ := hxat
      omega
  case vram | wram | oam | hram =>
    cases r <;> simp_all [Bus.plainByte, Memory.get_set, eq_comm]
  case ext =>
    cases hb : s.cart.banked with
    | false =>
      simp only [extWrite, hb, Bool.false_eq_true, if_false]
      cases r
      case ext p => exact Memory.get_set_other _ _ fun e => hne (e ▸ rfl)
      all_goals rfl
    | true => cases r <;> simp_all [Bus.plainByte, Region.IsPlain]

end

/-! ## What an instruction stores to -/

/-- Two states with the same memories, devices and ports. -/
structure SameMemory (s t : State) : Prop where
  bus : t.bus = s.bus
  cart : t.cart = s.cart
  irq : t.irq = s.irq
  timer : t.timer = s.timer
  video : t.video = s.video
  joypad : t.joypad = s.joypad
  serial : t.serial = s.serial

theorem SameMemory.memRead {s t : State} (h : SameMemory s t) (x : Word) : memRead t x = memRead s x :=
  memRead_congr h.bus h.cart h.irq h.timer h.video h.joypad h.serial x

theorem storeAddrsOf_illegal (k : IllegalOp) (s : State) : storeAddrsOf (.illegal k) s = [] := by
  cases k <;> rfl

theorem storeAddrsOf_advancePc (i : Instr) (s : State) : storeAddrsOf i (advancePc s) = storeAddrsOf i s := rfl

theorem extended_ne_prefix (b1 : Byte) : extended b1 ≠ .prefix_cb := by
  revert b1
  decide +kernel

/-- An instruction other than that of the lone byte 0xCB makes writes to its addresses, and changes nothing else of memory. -/
theorem exec_storesOf {i : Instr} {s t : State} (hp : i ≠ .prefix_cb) (h : exec i s = .next t) :
    ∃ ws, ws.map Prod.fst = storeAddrsOf i s ∧ SameMemory (stores s ws) t := by
  rcases exec_next_cases h with ⟨k, rfl, rfl⟩ | ⟨ws, c, n, rfl, -, -, hstores⟩
  · exact ⟨[], (storeAddrsOf_illegal k s).symm, rfl, rfl, rfl, rfl, rfl, rfl, rfl⟩
  · exact ⟨ws, (hstores hp).1, rfl, rfl, rfl, rfl, rfl, rfl, rfl⟩

/-- So does every instruction: that of the lone byte 0xCB runs an extended one past its second byte (R295). -/
theorem exec_stores {i : Instr} {s t : State} (h : exec i s = .next t) :
    ∃ ws, ws.map Prod.fst = storeAddrs i s ∧ SameMemory (stores s ws) t := by
  by_cases hp : i = .prefix_cb
  · subst hp
    have hext : exec (extended (fetchByte s)) (advancePc s) = .next t := by rw [exec_extended, ← exec_prefix_cb, h]
    obtain ⟨ws, hws, hmem⟩ := exec_storesOf (extended_ne_prefix _) hext
    have hpc : stores (advancePc s) ws = (stores s ws).withCpu (advancePc s).cpu := stores_withCpu s _ ws
    rw [hpc] at hmem
    refine ⟨ws, ?_, hmem.bus, hmem.cart, hmem.irq, hmem.timer, hmem.video, hmem.joypad, hmem.serial⟩
    rw [hws, storeAddrsOf_advancePc, storeAddrs, if_pos rfl]
    rfl
  · rw [storeAddrs, if_neg hp]
    exact exec_storesOf hp h

theorem plainRam_memWrite {s : State} (a : Word) (v : Byte) {x : Word} (h : PlainRam s x) : PlainRam (memWrite s a v) x := by
  rw [PlainRam, memWrite_banked]
  exact h

/-- Stores to plain storage change no other byte. -/
theorem memRead_stores_plain {s : State} {x : Word} {ws : List (Word × Byte)} (hplain : ∀ a ∈ ws.map Prod.fst, PlainRam s a)
    (hother : ∀ a ∈ ws.map Prod.fst, ¬SameByte a x) : memRead (stores s ws) x = memRead s x := by
  induction ws generalizing s with
  | nil => rfl
  | cons w ws ih =>
    simp only [List.map_cons, List.forall_mem_cons] at hplain hother
    rw [stores_cons, ih (fun a ha => plainRam_memWrite _ _ (hplain.2 a ha)) hother.2]
    exact (storageReadAfterWrite s w.1 x w.2 hplain.1).2.2 hother.1

/-- Stores elsewhere leave a byte of plain storage, unless it is OAM's and one of them starts a copy. -/
theorem memRead_stores_other {s : State} {x : Word} {ws : List (Word × Byte)} (h : PlainRam s x)
    (hother : ∀ a ∈ ws.map Prod.fst, ¬SameByte a x) (hd : 0xFF46 ∉ ws.map Prod.fst ∨ x.toNat < 0xFE00 ∨ 0xFEA0 ≤ x.toNat) :
    memRead (stores s ws) x = memRead s x := by
  induction ws generalizing s with
  | nil => rfl
  | cons w ws ih =>
    rw [List.map_cons] at hother hd
    rw [List.forall_mem_cons] at hother
    rw [List.mem_cons, not_or] at hd
    rw [stores_cons, ih (plainRam_memWrite _ _ h) hother.2 (hd.imp_left And.right)]
    exact memRead_memWrite_other h w.2 hother.1 (hd.imp_left fun h46 => Ne.symm h46.1)

/-- Settles O34: an instruction makes writes to its addresses, and each clause is that of such writes. -/
theorem memoryFrame : Obligations.MemoryFrame := by
  intro i s t h
  obtain ⟨ws, hws, hmem⟩ := exec_stores h
  rw [← hws]
  refine ⟨fun x hplain hother => (hmem.memRead x).trans (memRead_stores_plain hplain hother),
    fun x hx hother hd => (hmem.memRead x).trans (memRead_stores_other hx hother hd), fun hnil => ?_⟩
  obtain rfl := List.map_eq_nil_iff.1 hnil
  exact ⟨hmem.bus, hmem.cart, hmem.irq, hmem.timer, hmem.video, hmem.joypad, hmem.serial⟩

/-! ## The stack (R12, R168, R169) -/

theorem row_push (q : Stk16) : Row [0b11#2 ++ q.code ++ 0b0101#4] (.push q) 16 16 := by
  cases q <;> exact ⟨rfl, rfl, rfl⟩

theorem exec_push (q : Stk16) (s : State) : exec (.push q) s = .next (retired (.push q) (pushed s (s.cpu.getStk q))) := by
  rw [← push16_eq]
  cases q <;> rfl

/-- Settles O16: each row, and its meaning by `push16_eq`. -/
theorem pushResults : Obligations.PushResults := fun q => ⟨row_push q, exec_push q⟩

/-- What was pushed over plain storage stands at the stack pointer. -/
theorem popped_pushed {s : State} (h1 : PlainRam s (s.cpu.sp - 1)) (h2 : PlainRam s (s.cpu.sp - 2)) (v : Word) :
    popped (pushed s v) = v := by
  have hsp : s.cpu.sp - 2 + 1 = s.cpu.sp - 1 := by bv_omega
  have hother : ¬SameByte (s.cpu.sp - 2) (s.cpu.sp - 1) := by
    rintro (e | ⟨-, -, e⟩ | ⟨-, -, e⟩) <;> bv_omega
  have hlow := storageReadAfterWrite (memWrite s (s.cpu.sp - 1) (v.extractLsb' 8 8)) _ (s.cpu.sp - 1) (v.extractLsb' 0 8)
    (plainRam_memWrite _ _ h2)
  have hhigh := storageReadAfterWrite s _ (s.cpu.sp - 1) (v.extractLsb' 8 8) h1
  have hread (a : Word) : memRead (pushed s v) a =
    memRead (memWrite (memWrite s (s.cpu.sp - 1) (v.extractLsb' 8 8)) (s.cpu.sp - 2) (v.extractLsb' 0 8)) a := rfl
  rw [popped, pushed_cpu, hsp, hread, hread, hlow.1, hlow.2.2 hother, hhigh.1]
  exact hiByte_append_loByte v

theorem Cpu.getStk_setStk_af (c : Cpu) (v : Word) : (c.setStk .af v).getStk .af = v &&& 0xFFF0 := by
  have hand : (hiByte v ++ loByte v) &&& (0xFF#8 ++ 0xF0#8) = (hiByte v &&& 0xFF#8) ++ (loByte v &&& 0xF0#8) := BitVec.and_append
  rw [hiByte_append_loByte, show 0xFF#8 = BitVec.allOnes 8 from rfl, BitVec.and_allOnes] at hand
  exact hand.symm

/-- A pair's register holds what was written to it; AF drops the low nibble of F (R24). -/
theorem Cpu.getStk_setStk (c : Cpu) (q : Stk16) (v : Word) : (c.setStk q v).getStk q = if q = .af then v &&& 0xFFF0 else v := by
  cases q
  case af => exact c.getStk_setStk_af v
  all_goals exact hiByte_append_loByte v

/-- Settles O17: the pop reads the word that the push stored, and AF drops the low nibble of F. -/
theorem pushPopRoundTrip : Obligations.PushPopRoundTrip := by
  intro q r s h1 h2
  have hpop : popped (retired (.push q) (pushed s (s.cpu.getStk q))) = s.cpu.getStk q := popped_pushed h1 h2 _
  have hsp : s.cpu.sp - 2 + 2 = s.cpu.sp := BitVec.sub_add_cancel _ _
  refine ⟨_, _, exec_push q s, exec_pop r _, (Cpu.setStk_sp _ _ _).trans hsp, ?_⟩
  exact (Cpu.getStk_setStk _ r _).trans (by rw [hpop])

end Sys2Proof.Machine
end

section
/-! The ports (spec/20_memory.md section 3, spec/60_exceptions.md section 5; obligations O36, O37 and O44): what the I/O registers and IE read
as, what a write to them stores, and the buttons. -/

namespace Sys2Proof.Machine

/-! ## The I/O registers and IE (R31, R73) -/

/-- The byte of an I/O register, by its offset (R73). -/
theorem memRead_ioAt (s : State) (o : Fin 0x80) : memRead s (BitVec.ofNat 16 (0xFF00 + o)) = ioRead s o := by
  have ho := o.isLt
  have ha : (BitVec.ofNat 16 (0xFF00 + o)).toNat = 0xFF00 + o := by rw [BitVec.toNat_ofNat]; omega
  rw [memRead_io s (by omega) (by omega), ha, Nat.add_sub_cancel_left]

theorem memWrite_ioAt (s : State) (o : Fin 0x80) (v : Byte) : memWrite s (BitVec.ofNat 16 (0xFF00 + o)) v = ioWrite s o v := by
  have ho := o.isLt
  have ha : (BitVec.ofNat 16 (0xFF00 + o)).toNat = 0xFF00 + o := by rw [BitVec.toNat_ofNat]; omega
  rw [memWrite_io s v (by omega) (by omega), ha, Nat.add_sub_cancel_left]

theorem busDecode_ie (ov : Bool) : busDecode ov 0xFFFF = .ie := by
  cases ov <;> rfl

theorem tacRead_eq (t : BitVec 3) : 0b11111#5 ++ t = 0xF8 ||| t.setWidth 8 := by
  revert t
  decide

theorem iflRead_eq (f : BitVec 5) : 0b111#3 ++ f = 0xE0 ||| f.setWidth 8 := by
  revert f
  decide

/-- STAT as read, by its fields (R35). -/
theorem statRead_eq (u : Video) : statRead u = 0x80 ||| (u.statw.setWidth 8 <<< 3) ||| (if u.coinc then 4 else 0) |||
    (match u.mode with | .hblank => 0 | .vblank => 1 | .oamScan => 2 | .drawing => 3) := by
  unfold statRead
  generalize u.statw = w, u.coinc = c
  cases u.mode <;> cases c <;> revert w <;> decide

/-- Settles O36: each register's row, its fixed bits written as the rule does. -/
theorem ioReads : Obligations.IoReads := by
  intro s
  refine ⟨memRead_ioAt s 0x01, memRead_ioAt s 0x02, memRead_ioAt s 0x04, memRead_ioAt s 0x05, memRead_ioAt s 0x06,
    (memRead_ioAt s 0x07).trans (tacRead_eq _), (memRead_ioAt s 0x0F).trans (iflRead_eq _), memRead_ioAt s 0x40,
    (memRead_ioAt s 0x41).trans (statRead_eq _), memRead_ioAt s 0x42, memRead_ioAt s 0x43, memRead_ioAt s 0x44, memRead_ioAt s 0x45,
    memRead_ioAt s 0x46, memRead_ioAt s 0x47, memRead_ioAt s 0x48, memRead_ioAt s 0x49, memRead_ioAt s 0x4A, memRead_ioAt s 0x4B,
    memRead_ioAt s 0x50, ?_⟩
  rw [memRead, busDecode_ie]

/-- Settles O37: each register's row; the log, and the three registers narrower than a byte, written as the rule does. -/
theorem ioWrites : Obligations.IoWrites := by
  intro s v
  refine ⟨memWrite_ioAt s 0x00 v, memWrite_ioAt s 0x01 v, (memWrite_ioAt s 0x02 v).trans ?sc, memWrite_ioAt s 0x04 v,
    memWrite_ioAt s 0x05 v, memWrite_ioAt s 0x06 v, (memWrite_ioAt s 0x07 v).trans ?tac, (memWrite_ioAt s 0x0F v).trans ?ifl, memWrite_ioAt s 0x41 v,
    memWrite_ioAt s 0x42 v, memWrite_ioAt s 0x43 v, memWrite_ioAt s 0x44 v, memWrite_ioAt s 0x45 v, memWrite_ioAt s 0x47 v,
    memWrite_ioAt s 0x48 v, memWrite_ioAt s 0x49 v, memWrite_ioAt s 0x4A v, memWrite_ioAt s 0x4B v, memWrite_ioAt s 0x50 v, ?ie⟩
  case sc =>
    have hlog : (if v = 0x81 then s.serial.log ++ [s.serial.sb] else s.serial.log) =
        s.serial.log ++ if v = 0x81 then [s.serial.sb] else [] := by split <;> simp
    rw [← hlog]
    rfl
  case tac => rw [← BitVec.setWidth_eq_extractLsb' (by decide)]; rfl
  case ifl => rw [← BitVec.setWidth_eq_extractLsb' (by decide)]; rfl
  case ie =>
    rw [memWrite, busDecode_ie, ← BitVec.setWidth_eq_extractLsb' (by decide)]

/-! ## The joypad (R370 to R372) -/

/-- The bit a button shows while its row is selected (R370): 0 when it is pressed. -/
def keyBit (pressed : Bool) (k : Nat) : Byte := if pressed then 0 else 1#8 <<< k

theorem append_buttonRow (c : BitVec 4) (b3 b2 b1 b0 : Bool) :
    c ++ buttonRow b3 b2 b1 b0 = (c ++ 0#4) ||| keyBit b3 3 ||| keyBit b2 2 ||| keyBit b1 1 ||| keyBit b0 0 := by
  revert c
  cases b3 <;> cases b2 <;> cases b1 <;> cases b0 <;> decide

theorem Buttons.put_get (b : Buttons) (k : Button) : b.put k (b.get k) = b := by
  cases k <;> rfl

theorem Buttons.get_put (k j : Button) (b : Buttons) (v : Bool) : (b.put k v).get j = if j = k then v else b.get j := by
  cases k <;> cases j <;> rfl

/-- A press requests the interrupt where the button was up (R371). -/
theorem setButton_press (k : Button) (s : State) :
    setButton k true s = if s.joypad.buttons.get k then s else { s with
      joypad := { s.joypad with buttons := s.joypad.buttons.put k true }
      irq := { s.irq with ifl := s.irq.ifl ||| 0b10000 } } := by
  cases h : s.joypad.buttons.get k with
  | true =>
    have hsame : s.joypad.buttons.put k true = s.joypad.buttons := h ▸ s.joypad.buttons.put_get k
    simp only [setButton, h, hsame, Bool.not_true, Bool.and_false, Bool.false_eq_true, if_false, if_true]
  | false =>
    simp only [setButton, h, Bool.not_false, Bool.and_true, Bool.false_eq_true, if_false, if_true]
    rfl

/-- Settles O44: FF00 by the selected rows, the calls by what the button was, and the buttons one by one. -/
theorem joypadPort : Obligations.JoypadPort := by
  have hread (s : State) : memRead s 0xFF00 = joypadRead s.joypad := memRead_ioAt s 0x00
  refine ⟨fun s => ⟨fun h => ?directions, fun h => ?actions, fun h => ?neither, fun h => ?both⟩,
    fun k s => ⟨fun h => ?new, fun h => ?again, rfl⟩, Buttons.get_put⟩
  case directions =>
    simp only [hread, joypadRead, h, if_true]
    exact append_buttonRow 0b1110 _ _ _ _
  case actions =>
    simp only [hread, joypadRead, h, if_true]
    exact append_buttonRow 0b1101 _ _ _ _
  case neither => simp only [hread, joypadRead, h]; rfl
  case both => simp only [hread, joypadRead, h]; rfl
  case new => rw [setButton_press, h]; rfl
  case again => rw [setButton_press, h]; rfl

end Sys2Proof.Machine
end

section
/-! INC and DEC as inverses, and decimal addition (spec/41_alu8.md R197; obligation O22). -/

namespace Sys2Proof.Machine

/-! ## INC and DEC -/

/-- A register after INC or DEC of it (R189, R191). -/
theorem getReg_incOp (r : Reg8) (s : State) : (incOp (.reg r) s).cpu.getReg r = s.cpu.getReg r + 1 := by
  rw [incOp, incResult_eq, writeReg_setFlags_eq]
  cases r <;> rfl

theorem getReg_decOp (r : Reg8) (s : State) : (decOp (.reg r) s).cpu.getReg r = s.cpu.getReg r - 1 := by
  rw [decOp, decResult_eq, writeReg_setFlags_eq]
  cases r <;> rfl

/-! ## Packed decimal numbers -/

/-- The packed form of a number below 100: a decimal digit in each nibble. -/
def packed (x : Nat) : Nat := 16 * (x / 10) + x % 10

/-- The decimal corrections of a binary sum of packed numbers: 0x06 where the low digits carry, 0x60 where the whole sum does, which the
binary sum shows by passing 0x99. -/
theorem packed_add {x y : Nat} (hx : x < 100) (hy : y < 100) :
    (153 < packed x + packed y ↔ 100 ≤ x + y) ∧
      (packed x + packed y + (if 100 ≤ x + y then 0x60 else 0) + (if 10 ≤ x % 10 + y % 10 then 0x06 else 0)) % 256 =
        packed ((x + y) % 100) := by
  unfold packed
  refine ⟨by omega, ?_⟩
  split <;> split <;> omega

theorem packed_lt {x : Nat} (hx : x < 100) : packed x < 154 := by
  unfold packed
  omega

theorem toNat_packed {x : Nat} (hx : x < 100) : (BitVec.ofNat 8 (packed x)).toNat = packed x := by
  have := packed_lt hx
  rw [BitVec.toNat_ofNat]
  omega

/-- DAA's two tests on the flags and the sum that ADD leaves (R181, R193): the high one is that the sum passes 0x99, the low one that the
low digits carry. -/
theorem daa_tests_of_packed {x y : Nat} (hx : x < 100) (hy : y < 100) :
    let sum := packed x + packed y
    ((sum > 255 ∨ sum % 256 > 0x99) ↔ 100 ≤ x + y) ∧
      ((packed x % 16 + packed y % 16 > 15 ∨ sum % 256 % 16 > 9) ↔ 10 ≤ x % 10 + y % 10) := by
  have hcarry := (packed_add hx hy).1
  have := packed_lt hx
  have := packed_lt hy
  refine ⟨by omega, ?_⟩
  unfold packed
  omega

/-- ADD then DAA on packed numbers: DAA makes the corrections of `packed_add`. -/
theorem daaResult_addFlags {x y : Nat} (hx : x < 100) (hy : y < 100) :
    let r := addFlags (BitVec.ofNat 8 (packed x)) (BitVec.ofNat 8 (packed y)) 0
    (daaResult r.1 r.2).1 = BitVec.ofNat 8 (packed ((x + y) % 100)) ∧ (daaResult r.1 r.2).2.c = decide (100 ≤ x + y) := by
  obtain ⟨hhigh, hlow⟩ := daa_tests_of_packed hx hy
  have hsum := (packed_add hx hy).2
  intro r
  have hr : r = _ := addFlags_eq (BitVec.ofNat 8 (packed x)) (BitVec.ofNat 8 (packed y)) 0
  clear_value r
  simp only [toNat_packed hx, toNat_packed hy, Int.add_zero, ← Int.natCast_add, BitVec.ofInt_natCast] at hr
  have hres : r.1.toNat = (packed x + packed y) % 256 := by rw [hr, BitVec.toNat_ofNat]
  have hhigh' : (r.2.c || decide (r.1.toNat > 0x99)) = decide (100 ≤ x + y) := by
    rw [hres, hr, ← Bool.decide_or]
    exact decide_eq_decide.2 (by omega)
  have hlow' : (r.2.h || decide (r.1.toNat % 16 > 9)) = decide (10 ≤ x % 10 + y % 10) := by
    rw [hres, hr, ← Bool.decide_or]
    exact decide_eq_decide.2 (by omega)
  rw [daaResult_of_not_n r.1 (congrArg (fun p => p.2.n) hr)]
  dsimp only
  rw [hhigh', hlow', hres]
  refine ⟨BitVec.eq_of_toNat_eq ?_, rfl⟩
  simp only [decide_eq_true_eq, BitVec.toNat_ofNat]
  omega

/-! ## The obligation -/

@[simp] theorem flags_setFlags (s : State) (g : Flags) : (s.setFlags g).cpu.flags = g := by
  rw [Cpu.flags, State.setFlags]
  simp only [withCpu_cpu, Cpu.flagZ_toByte, Cpu.flagN_toByte, Cpu.flagH_toByte, Cpu.flagC_toByte]

/-- DAA after an accumulator operation reads the result and the flags which that wrote (R25). -/
theorem daaOp_aluOp (o : AluOp) (v : Byte) (s : State) :
    let r := aluResult o s.cpu.a v s.cpu.flags
    (daaOp (aluOp o v s)).cpu.a = (daaResult r.1 r.2).1 ∧ (daaOp (aluOp o v s)).cpu.f = (daaResult r.1 r.2).2.toByte := by
  intro r
  have hflags : (aluOp o v s).cpu.flags = r.2 := flags_setFlags _ r.2
  have ha : (aluOp o v s).cpu.a = r.1 := rfl
  rw [daaOp, hflags, ha]
  exact ⟨rfl, rfl⟩

/-- Settles O22: INC and DEC add and subtract one; ADD and DAA by `daaResult_addFlags`. -/
theorem decimalSumLaw : Obligations.DecimalSumLaw := by
  refine ⟨fun r s => ⟨_, _, _, _, exec_incR8 _ s, exec_decR8 _ _, ?_, exec_decR8 _ s, exec_incR8 _ _, ?_⟩, fun x y s hx hy ha => ?_⟩
  · exact (getReg_decOp r _).trans ((congrArg (· - 1) (getReg_incOp r s)).trans (BitVec.add_sub_cancel _ 1))
  · exact (getReg_incOp r _).trans ((congrArg (· + 1) (getReg_decOp r s)).trans (BitVec.sub_add_cancel _ 1))
  · have hadd := exec_aluImm .add (BitVec.ofNat 8 (packed y)) s
    refine ⟨_, _, hadd, exec_daa _, ?_⟩
    obtain ⟨hA, hF⟩ := daaOp_aluOp .add (BitVec.ofNat 8 (packed y)) s
    obtain ⟨hsum, hc⟩ := daaResult_addFlags hx hy
    rw [ha] at hA hF
    have hdigit : (x + y) % 100 % 10 = (x + y) % 10 := by omega
    constructor
    · rw [← hdigit]
      exact hA.trans hsum
    · exact (congrArg (·.getLsbD 4) hF).trans ((Flags.toByte_bit4 _).trans hc)

end Sys2Proof.Machine
end
